-- ==== Sys2Proof/Word.lean ====
section
/-! DEFINITION. The words of the WL432: bytes of the management link, beats of the memory path, addresses, the
numbers of requesters, slots and range entries, and the fixed-size tables they index (00_scope.md section 6). -/

namespace Sys2Proof

/-- One byte of an M-link frame (R189), and the width of a transaction tag. -/
abbrev Byte := BitVec 8

/-- A beat is 16 bytes (00_scope.md section 6). -/
abbrev Beat := BitVec 128

/-- A byte address, 0 to 2^40 − 1 (00_scope.md section 6). -/
abbrev Addr := BitVec 40

/-- A transaction tag, 0 to 255 (R21). -/
abbrev Tag := BitVec 8

/-- A requester number, 0 to 31 (R21, R141). -/
abbrev RequesterId := Fin 32

/-- A slot number of the outstanding table, 0 to 15 (R119). -/
abbrev SlotId := Fin 16

/-- A range entry number, 0 to 15 (R67). -/
abbrev RangeId := Fin 16

/-- A table of `n` like things (the requester table, the range table, the outstanding table). -/
abbrev Table (α : Type) (n : Nat) := Vector α n

/-- Replace entry `i` of a table. -/
def Table.put {α : Type} {n : Nat} (v : Table α n) (i : Fin n) (x : α) : Table α n :=
  v.set i.val x i.isLt

/-- Rewrite every entry of a table, knowing its number. Irreducible: proofs read it through `Table.remap_get`. -/
@[irreducible] def Table.remap {α β : Type} {n : Nat} (v : Table α n) (f : Fin n → α → β) : Table β n :=
  Vector.ofFn fun i => f i v[i]

/-- A table with the same entry everywhere. -/
def Table.fill {α : Type} (n : Nat) (x : α) : Table α n := Vector.replicate n x

end Sys2Proof
end

