-- ==== Sys2Proof/Config.lean ====
section
/-! DEFINITION. What one WL432 fixes: its capacities (00_scope.md section 5), the segment size (R105, R117), the
fixed bytes of the M-link (R190), and the free values: what the manual leaves to the part and no proof may read. -/

namespace Sys2Proof.Config

/-- The hold queue holds at most 48 entries (R45). -/
def holdCapacity : Nat := 48
/-- The issue queue holds at most 8 transactions (R100). -/
def issueCapacity : Nat := 8
/-- The incident log holds at most 32 records (R159). -/
def logCapacity : Nat := 32
/-- A segment is 2048 bytes aligned on a multiple of 2048 (R105). -/
def segmentBytes : Nat := 2048
/-- A beat is 16 bytes. -/
def beatBytes : Nat := 16
/-- One past the highest byte address (00_scope.md section 6). -/
def addressEnd : Nat := 2 ^ 40
/-- The longest well-formed transaction, in beats (R25). -/
def maxBeats : Nat := 16

/-- The direction marker of a COMMAND transfer (R190). -/
def commandMarker : Byte := 0x5A
/-- The direction marker of an ANSWER_READ transfer (R190). -/
def answerReadMarker : Byte := 0xA5
/-- The fill byte the WL432 shifts out (R190). -/
def fillByte : Byte := 0xFF
/-- The longest command frame, in bytes (R174). -/
def maxFrameBytes : Nat := 64
/-- The longest parameter block a frame can state (R174). -/
def maxParameterBytes : Nat := 59

/-- FREE VALUE (log entry 1): the silicon revision number that GET_IDENTITY reports, 0 to 255 (R180). The manual
gives its width and no value. -/
opaque revision : Byte

/-- FREE VALUE (log entry 2): when a commit is applied at a window end that also escalates requesters, whether the
ESCALATED records join the log before the COMMIT_APPLIED record (R162: they may join in either order). Its argument
is the state's counter of such choices, which no RESET puts back, so that every choice of a run is free on its own; two runs
that have met equally many such choices make the same one (DESIGN CHOICE). -/
opaque escalatedJoinFirst : Nat → Bool

/-- Where the HOLD_EXPIRED records of a window end stand among those of the commit controller and the restraint unit
(R162). -/
inductive ExpiryPlace where
  | first
  | between
  | last
  deriving DecidableEq, Repr, Inhabited

/-- FREE VALUE (log entry 2): at a forced restart end that answers both, whether the FAULT responses of the abandoned
slots come before the RETRY responses of the removed queue entries (R115, R136: they keep no order between them). -/
opaque faultsFirst : Nat → Bool

/-- FREE VALUE (log entry 11): at a forced restart end on a tick that ends no window, whether the end is taken before
the window timer counts that tick (R158 rules the tick that ends a window and leaves this one open). -/
opaque forcedEndBeforeCount : Nat → Bool

/-- FREE VALUE (log entry 2): at a window end whose expiry records beside a commit's or an escalation's, where the
HOLD_EXPIRED records join the log (R162: they may join in either order). Its argument is as above. -/
opaque expiryJoinsAt : Nat → ExpiryPlace

end Sys2Proof.Config
end

