-- ==== Sys2Proof/Syntax.lean ====
section
/-! DEFINITION. The commands of the WL432: one constructor of `Instr` for each row of spec/opcode_table.json, with
the operands the spec gives the row. Arrivals from outside and the part's own steps stand in one list, because the
table lists both as the part's whole and indivisible steps. -/

namespace Sys2Proof

/-- The direction of a transfer (R21). -/
inductive Kind where
  | read
  | write
  deriving DecidableEq, Repr

/-- The transaction record the U-port takes (R21). The same fields make up a hold queue entry (R46) and an issue
queue entry (R100). `length` is the length field as carried, 0 to 31. -/
structure Transaction where
  requester : RequesterId
  tag : Tag
  kind : Kind
  address : Addr
  length : Fin 32
  data : List Beat
  deriving DecidableEq, Repr

/-- The outcome a completion carries (R120). -/
inductive CompletionOutcome where
  | ok
  | error
  deriving DecidableEq, Repr

/-- The commands: what happens to the WL432 and what it does, one constructor per row of the table. An M-link
command carries the sequence number of its frame (R174) and its parameters as the bytes of the frame (R190). -/
inductive Instr where
  /-- TICK: one arrival on TICK (R2). -/
  | tick
  /-- WINDOW_END_BY_EXPIRY: the window end of a tick on which the counter reached the period (R2). -/
  | windowEndByExpiry
  /-- SYNC: one arrival on SYNC (R3). -/
  | sync
  /-- HOLD_EXPIRY: the expiry that belongs to a window end (R50). -/
  | holdExpiry
  /-- DRAINED_COMMIT_APPLY: the apply of a commit whose drain is complete (R149). -/
  | drainedCommitApply
  /-- COMMIT_ABANDONED: the drain tick count has reached the captured limit (R150). -/
  | commitAbandoned
  /-- TRANSACTION_TAKEN: the interconnect presents a request at the U-port (R21, R24). -/
  | transactionTaken (t : Transaction)
  /-- HELD_ENTRY_RELEASE: one release of the release unit (R55). -/
  | heldEntryRelease
  /-- ISSUE: one issue of the head of the issue queue (R108). -/
  | issue
  /-- COMPLETION: a completion on the D-port, with its slot, outcome and data (R120). -/
  | completion (slot : SlotId) (outcome : CompletionOutcome) (data : List Beat)
  /-- COMPLETION_TIMEOUT: the comparison of the slots' ticks with the completion limit at a tick (R128). -/
  | completionTimeout
  /-- RESTART_NORMAL_END: the restart's drain is complete (R157). -/
  | restartNormalEnd
  /-- RESTART_FORCED_END: the restart's drain tick count has reached its limit (R157). -/
  | restartForcedEnd
  /-- RESET: a full reset (R44, R188). -/
  | reset
  /-- ANSWER_READ: a transfer with the ANSWER_READ marker, and the whole bytes clocked after it (R173). -/
  | answerRead (clocked : Nat)
  | getIdentity (seq : Byte)
  | readStatus (seq : Byte)
  | readGlobal (seq copy : Byte)
  | writeGlobal (seq : Byte) (block : List Byte)
  | readRequester (seq index copy : Byte)
  | writeRequester (seq index : Byte) (block : List Byte)
  | readRange (seq index copy : Byte)
  | writeRange (seq index : Byte) (block : List Byte)
  | copyActiveToStaged (seq : Byte)
  | commit (seq mode : Byte)
  | cancelCommit (seq : Byte)
  | restart (seq : Byte)
  | recoverDownstream (seq : Byte)
  | isolate (seq requester : Byte)
  | release (seq requester : Byte)
  | readHold (seq requester : Byte)
  | readSlots (seq : Byte)
  | readLog (seq count : Byte)
  | setAlertMask (seq set : Byte)
  | ackAlert (seq set : Byte)
  /-- COMMAND_FRAME_REFUSED: the bytes the host shifts in during one select period, the marker first (R171, R174). -/
  | commandFrameRefused (transfer : List Byte)
  deriving DecidableEq, Repr

end Sys2Proof
end

