-- ==== Sys2Proof/Machine/State.lean ====
section
/-! DEFINITION. Everything the WL432 holds, block by block, as plain data, and its values after a full reset.
Fields marked MODEL'S OWN are not named by the manual: they keep what the manual says in words. -/

namespace Sys2Proof.Machine

/-! ## The configuration (chapters 4 and 8) -/

/-- The global operating mode (R140). -/
inductive Mode where
  | transparent
  | regulating
  deriving DecidableEq, Repr

/-- The global block (R140). Ranges are `GlobalBlock.inRange` in Machine/Operands.lean. -/
structure GlobalBlock where
  mode : Mode
  period : Nat
  syncEnable : Bool
  syncPhase : Nat
  syncGuard : Nat
  completionLimit : Nat
  drainLimit : Nat
  holdAgeLimit : Nat
  deriving DecidableEq, Repr

/-- One entry of the requester table (R141). -/
structure RequesterEntry where
  present : Bool
  regulated : Bool
  allowance : Nat
  carryLimit : Nat
  level : Nat
  cls : Nat
  holdShare : Nat
  escalationLimit : Nat
  deriving DecidableEq, Repr

/-- The transaction kinds a range entry concerns (R67). -/
inductive RangeKinds where
  | read
  | write
  | both
  deriving DecidableEq, Repr

/-- What a deciding range entry decides (R67). -/
inductive RangeAction where
  | pass
  | deny
  | curb
  | isolate
  deriving DecidableEq, Repr

/-- One entry of the range table (R67). `classes` is the set written in one byte, bit n for class n (R191). -/
structure RangeEntry where
  valid : Bool
  base : Addr
  limit : Addr
  kinds : RangeKinds
  classes : BitVec 4
  action : RangeAction
  deriving DecidableEq, Repr

/-- One copy of the configuration: three parts (R139). -/
structure Configuration where
  global : GlobalBlock
  requesters : Table RequesterEntry 32
  ranges : Table RangeEntry 16
  deriving DecidableEq, Repr

/-! ## The window timer and the accounts (chapter 1) -/

/-- The three values of the window timer (R1). -/
structure Timer where
  counter : Nat
  elapsed : Nat
  windowNumber : BitVec 16
  deriving DecidableEq, Repr

/-- One requester's allowance account (R9). -/
structure Account where
  balance : Int
  beatsThis : Nat
  beatsLast : Nat
  retryCount : BitVec 16
  deniedCount : BitVec 16
  deriving DecidableEq, Repr

/-! ## Restraint (chapter 5) -/

/-- A requester's standing (R82). -/
inductive Standing where
  | free
  | curbed
  | isolated
  deriving DecidableEq, Repr

/-- One requester's restraint record (R82). -/
structure Restraint where
  standing : Standing
  strikes : Nat
  curbHit : Bool
  deriving DecidableEq, Repr

/-! ## The hold queue (chapter 3) -/

/-- A held entry: its transaction and its age (R46). -/
structure HeldEntry where
  txn : Transaction
  age : Nat
  deriving DecidableEq, Repr

/-! ## The outstanding table (chapters 6 and 7) -/

/-- The role of a piece (R105). -/
inductive PieceRole where
  | whole
  | first
  | second
  deriving DecidableEq, Repr

/-- The outcome of a piece (R109, R121, R128). -/
inductive PieceOutcome where
  | pending
  | ok
  | error
  | timeout
  deriving DecidableEq, Repr

/-- The record of a slot that is not FREE (R109, R119). -/
structure SlotRecord where
  requester : RequesterId
  tag : Tag
  kind : Kind
  address : Addr
  length : Nat
  role : PieceRole
  partner : Option SlotId
  ticks : Nat
  outcome : PieceOutcome
  readData : Option (List Beat)
  deriving DecidableEq, Repr

/-- A slot in one of its four states; a FREE slot holds no record (R119). -/
inductive Slot where
  | free
  | issued (r : SlotRecord)
  | doneWaiting (r : SlotRecord)
  | abandoned (r : SlotRecord)
  deriving DecidableEq, Repr

/-! ## Commit and restart (chapter 8) -/

/-- The commit mode (R145). -/
inductive CommitMode where
  | boundary
  | drained
  deriving DecidableEq, Repr

/-- The commit state (R144): the mode is kept while ARMED (a DRAINING commit is a DRAINED one), the drain tick count
and the captured drain limit while DRAINING. -/
inductive CommitState where
  | idle
  | armed (mode : CommitMode)
  | draining (ticks limit : Nat)
  deriving DecidableEq, Repr

/-- The last commit outcome (R144). -/
inductive CommitOutcome where
  | none
  | applied
  | cancelled
  | abandoned
  | cancelledByRestart
  deriving DecidableEq, Repr

/-- The commit controller (R144, R148). -/
structure CommitController where
  state : CommitState
  pause : Bool
  outcome : CommitOutcome
  outcomeWindow : BitVec 16
  deriving DecidableEq, Repr

/-- The regulation restart (R155): its state, and while DRAINING its drain tick count and captured limit. -/
inductive RestartState where
  | idle
  | draining (ticks limit : Nat)
  deriving DecidableEq, Repr

/-! ## Incidents and alerts (chapter 9) -/

/-- The 17 kinds of incident, each with the fields present for it (R160). -/
inductive Incident where
  | malformed (requester : RequesterId) (tag : Tag) (address : Addr)
  | duplicateTag (requester : RequesterId) (tag : Tag)
  | unknownRequester (requester : RequesterId) (tag : Tag)
  | rangeDeny (requester : RequesterId) (tag : Tag) (address : Addr) (range : RangeId)
  | rangeCurb (requester : RequesterId) (tag : Tag) (address : Addr) (range : RangeId)
  | rangeIsolate (requester : RequesterId) (tag : Tag) (address : Addr) (range : RangeId)
  | escalated (requester : RequesterId)
  | managedIsolate (requester : RequesterId)
  | holdExpired (requester : RequesterId) (tag : Tag)
  | completionTimeout (requester : RequesterId) (tag : Tag) (slot : SlotId)
  | memoryError (requester : RequesterId) (tag : Tag) (slot : SlotId) (address : Addr)
  | lateCompletion (slot : SlotId)
  | strayCompletion (slot : SlotId)
  | commitApplied
  | commitAbandoned
  | syncEarly
  | restartForced (count : Nat)
  deriving DecidableEq, Repr

/-- An incident record: sequence number, kind with its fields, window number at recording (R160). -/
structure IncidentRecord where
  seq : BitVec 16
  window : BitVec 16
  incident : Incident
  deriving DecidableEq, Repr

/-- The incident log: records oldest first, next sequence number, lost count (R159). -/
structure IncidentLog where
  records : List IncidentRecord
  nextSeq : BitVec 16
  lost : Nat
  deriving DecidableEq, Repr

/-- The six latched alert causes, true when pending (R165). -/
structure LatchedCauses where
  isolation : Bool
  quarantine : Bool
  commitDone : Bool
  commitFailed : Bool
  restartDone : Bool
  logLost : Bool
  deriving DecidableEq, Repr

/-- A set drawn from the seven alert causes (R167, R190). -/
structure AlertSet where
  isolation : Bool
  quarantine : Bool
  commitDone : Bool
  commitFailed : Bool
  restartDone : Bool
  logLost : Bool
  logPending : Bool
  deriving DecidableEq, Repr

/-! ## The management link (chapter 10) -/

/-- The eleven statuses (R178). -/
inductive Status where
  | done
  | accepted
  | busy
  | frozen
  | badIndex
  | badValue
  | badConfig
  | notPresent
  | unknownCommand
  | frameError
  | noAnswer
  deriving DecidableEq, Repr

/-- An answer frame (R176): its result length and its CRC follow from these fields (`Answer.bytes`). -/
structure Answer where
  seq : Byte
  code : Byte
  status : Status
  results : List Byte
  deriving DecidableEq, Repr

/-- The select period in progress on the M-link (R171): none, one in which the host has shifted in these whole bytes so
far, or one within which a full reset was taken, so that its transfer is ignored up to its end (R188). Select is an input
of the part: the table has no row for its start, so the outside world sets `receiving` as it sets the queue (log entry
9), and the row of the transfer, taken when select ends, sets `released`. -/
inductive SelectPeriod where
  | released
  | receiving (bytes : List Byte)
  | ignored
  deriving DecidableEq, Repr

/-- The answer store, the sequence number and command code of the last command frame taken (R172), and the select period
in progress (R171, R188). -/
structure Link where
  answer : Option Answer
  lastSeq : Byte
  lastCode : Byte
  select : SelectPeriod
  deriving DecidableEq, Repr

/-! ## The ports -/

/-- A request of the interconnect that the U-port has not taken: none, one that waits for a free issue queue entry, or
one that has been granted an entry, which is then set aside for it (R23, R102). -/
inductive UPortRequest where
  | none
  | waiting
  | granted
  deriving DecidableEq, Repr

/-- The outcome of a response (R22). -/
inductive ResponseOutcome where
  | done
  | fault
  | retry
  | denied
  deriving DecidableEq, Repr

/-- A response on the U-port (R22). -/
structure Response where
  requester : RequesterId
  tag : Tag
  outcome : ResponseOutcome
  data : List Beat
  deriving DecidableEq, Repr

/-- A piece sent out of the D-port (R110). -/
structure PieceSent where
  slot : SlotId
  kind : Kind
  address : Addr
  length : Nat
  data : List Beat
  deriving DecidableEq, Repr

/-- What the last command put on the output ports: the responses on the U-port (R22), the pieces on the D-port
(R110) and the bytes shifted out of the M-link (R171), each in the order given. -/
structure Outputs where
  responses : List Response
  pieces : List PieceSent
  shifted : List Byte
  deriving DecidableEq, Repr

/-! ## The whole part -/

/-- The WL432. The ALERT line is `State.alertLine` (R168) and a requester's held count `State.heldCount` (R47): both
follow from the fields below and are not stored a second time. -/
structure State where
  /-- The window timer (R1). -/
  timer : Timer
  /-- The staged copy of the configuration (R139). -/
  staged : Configuration
  /-- The active copy of the configuration (R139). -/
  active : Configuration
  /-- The 32 allowance accounts (R9). -/
  accounts : Table Account 32
  /-- The 32 restraint records (R82). -/
  restraints : Table Restraint 32
  /-- The hold queue, first-listed entry first (R45). -/
  hold : List HeldEntry
  /-- The issue queue, head first (R100). -/
  issueQueue : List Transaction
  /-- The outstanding table (R119). -/
  slots : Table Slot 16
  /-- The commit controller (R144). -/
  commit : CommitController
  /-- The regulation restart (R155). -/
  restart : RestartState
  /-- The incident log (R159). -/
  log : IncidentLog
  /-- The latched alert causes (R165). -/
  latched : LatchedCauses
  /-- The alert mask (R167). -/
  mask : AlertSet
  /-- The answer store of the M-link (R172). -/
  link : Link
  /-- The output ports after the last command (R22, R110, R171). -/
  out : Outputs
  /-- MODEL'S OWN: the request that the interconnect keeps at the U-port, and its grant (R23, R102). -/
  uPort : UPortRequest
  /-- MODEL'S OWN: a tick has been counted in the slots and its comparison is still to be taken, with the completion
  limit as it stood at that tick (R128, R129). -/
  timeoutCheck : Option Nat
  /-- MODEL'S OWN: the last tick has reached a restart's drain limit and found its drain not complete, and the forced end is
  still to be taken (R136, R157, R158). -/
  forcedEnd : Bool
  /-- MODEL'S OWN: how many choices the manual leaves open have been made (the argument of the free values); RESET keeps
  it (log entry 2). -/
  openChoices : Nat
  /-- MODEL'S OWN: the commands that wait, first in, first out. -/
  pending : List Instr
  deriving DecidableEq, Repr

/-- No command of the WL432 ends the part with a fault: the manual gives every row an effect in every state, so this
inductive has no constructor and nothing raises it (safe). -/
inductive Fault where
  deriving DecidableEq, Repr

/-- Why a command has no meaning in the model. -/
inductive Refusal where
  /-- Raised only by an arm of `exec` whose row has no meaning yet (safe: the run stops). No arm is in that case. -/
  | notModelled (mnemonic : String)
  deriving DecidableEq, Repr

/-! ## Reset values -/

/-- The default global block (R140). -/
def GlobalBlock.default : GlobalBlock :=
  { mode := .transparent, period := 1000, syncEnable := false, syncPhase := 0, syncGuard := 0,
    completionLimit := 0, drainLimit := 1000, holdAgeLimit := 0 }

/-- The default requester entry (R141). -/
def RequesterEntry.default : RequesterEntry :=
  { present := true, regulated := false, allowance := 0, carryLimit := 0, level := 0, cls := 0,
    holdShare := 0, escalationLimit := 0 }

/-- The default range entry (R67): not valid, 0 to 255, BOTH, the class set holding class 0 alone, PASS. -/
def RangeEntry.default : RangeEntry :=
  { valid := false, base := 0, limit := 255, kinds := .both, classes := 1, action := .pass }

/-- The configuration both copies hold after a full reset (R139). -/
def Configuration.default : Configuration :=
  { global := GlobalBlock.default, requesters := Table.fill 32 RequesterEntry.default,
    ranges := Table.fill 16 RangeEntry.default }

/-- The account after a full reset (R9). -/
def Account.zero : Account :=
  { balance := 0, beatsThis := 0, beatsLast := 0, retryCount := 0, deniedCount := 0 }

/-- The restraint record after a full reset (R82). -/
def Restraint.clean : Restraint := { standing := .free, strikes := 0, curbHit := false }

/-- No latched cause pending (R165). -/
def LatchedCauses.none : LatchedCauses :=
  { isolation := false, quarantine := false, commitDone := false, commitFailed := false,
    restartDone := false, logLost := false }

/-- The empty set of causes (R167). -/
def AlertSet.empty : AlertSet :=
  { isolation := false, quarantine := false, commitDone := false, commitFailed := false,
    restartDone := false, logLost := false, logPending := false }

/-- Nothing on the output ports. -/
def Outputs.none : Outputs := { responses := [], pieces := [], shifted := [] }

/-- The WL432 right after a full reset. -/
def State.reset : State :=
  { timer := { counter := 0, elapsed := 0, windowNumber := 0 }
    staged := Configuration.default
    active := Configuration.default
    accounts := Table.fill 32 Account.zero
    restraints := Table.fill 32 Restraint.clean
    hold := []
    issueQueue := []
    slots := Table.fill 16 Slot.free
    commit := { state := .idle, pause := false, outcome := .none, outcomeWindow := 0 }
    restart := .idle
    log := { records := [], nextSeq := 0, lost := 0 }
    latched := LatchedCauses.none
    mask := AlertSet.empty
    link := { answer := Option.none, lastSeq := 0, lastCode := 0, select := .released }
    out := Outputs.none
    uPort := .none
    timeoutCheck := Option.none
    forcedEnd := false
    openChoices := 0
    pending := [] }

end Sys2Proof.Machine
end

