-- ==== Sys2Proof/Machine/Flags.lean ====
section
/-! DEFINITION. The flags of the WL432: the incident log's recording and dropping (R161, R163), the alert causes, the
mask and the ALERT line (R165 to R169). -/

namespace Sys2Proof.Machine

/-- Latching a cause: `f` makes it pending; the others keep their values (R165). -/
def State.latch (s : State) (f : LatchedCauses → LatchedCauses) : State := { s with latched := f s.latched }

def LatchedCauses.withIsolation (c : LatchedCauses) : LatchedCauses := { c with isolation := true }
def LatchedCauses.withQuarantine (c : LatchedCauses) : LatchedCauses := { c with quarantine := true }
def LatchedCauses.withCommitDone (c : LatchedCauses) : LatchedCauses := { c with commitDone := true }
def LatchedCauses.withCommitFailed (c : LatchedCauses) : LatchedCauses := { c with commitFailed := true }
def LatchedCauses.withRestartDone (c : LatchedCauses) : LatchedCauses := { c with restartDone := true }
def LatchedCauses.withLogLost (c : LatchedCauses) : LatchedCauses := { c with logLost := true }

/-- Acknowledging a set clears the latched causes in it; LOG_PENDING in the set is ignored (R169). -/
def LatchedCauses.acknowledge (c : LatchedCauses) (a : AlertSet) : LatchedCauses :=
  { isolation := c.isolation && !a.isolation, quarantine := c.quarantine && !a.quarantine,
    commitDone := c.commitDone && !a.commitDone, commitFailed := c.commitFailed && !a.commitFailed,
    restartDone := c.restartDone && !a.restartDone, logLost := c.logLost && !a.logLost }

/-- The causes that are pending: the latched ones, and LOG_PENDING while the log holds a record (R166). -/
def State.pendingCauses (s : State) : AlertSet :=
  { isolation := s.latched.isolation, quarantine := s.latched.quarantine, commitDone := s.latched.commitDone,
    commitFailed := s.latched.commitFailed, restartDone := s.latched.restartDone,
    logLost := s.latched.logLost, logPending := !s.log.records.isEmpty }

/-- At least one cause is in both sets. -/
def AlertSet.meets (a b : AlertSet) : Bool :=
  (a.isolation && b.isolation) || (a.quarantine && b.quarantine) || (a.commitDone && b.commitDone) ||
    (a.commitFailed && b.commitFailed) || (a.restartDone && b.restartDone) || (a.logLost && b.logLost) ||
    (a.logPending && b.logPending)

/-- The ALERT output: asserted while at least one cause is both pending and enabled (R168). -/
def State.alertLine (s : State) : Bool := s.pendingCauses.meets s.mask

/-- The log after an incident it has room for, stamped with a window number (R161). -/
def IncidentLog.append (l : IncidentLog) (window : BitVec 16) (i : Incident) : IncidentLog :=
  { l with records := l.records ++ [{ seq := l.nextSeq, window := window, incident := i }],
           nextSeq := l.nextSeq + 1 }

/-- The log after an incident it has no room for: only the lost count rises, saturating at 255 (R163). -/
def IncidentLog.drop (l : IncidentLog) : IncidentLog := { l with lost := min (l.lost + 1) 255 }

/-- Handing an incident to the log: recorded while the log holds fewer than 32 records (R161), else dropped, with
cause LOG_LOST latched (R163). -/
def State.record (s : State) (i : Incident) : State :=
  if s.log.records.length < Config.logCapacity then
    { s with log := s.log.append s.timer.windowNumber i }
  else
    { s with log := s.log.drop, latched := s.latched.withLogLost }

end Sys2Proof.Machine
end

