-- ==== Sys2Proof/Decode.lean ====
section
/-! DEFINITION. Reading bytes: the byte order of the M-link (R189), its CRC (R175), the check of a command frame
(R174) and the command a frame that passes carries (R190). The table of commands gives no row bits, so the word
decoder reads no command from a word. -/

namespace Sys2Proof

/-- A value as `width` bytes, most significant byte first (R189). -/
def beBytes : Nat → Nat → List Byte
  | 0, _ => []
  | width + 1, value => beBytes width (value / 256) ++ [BitVec.ofNat 8 value]

/-- The value of a run of bytes, most significant byte first (R189). -/
def ofBeBytes (bytes : List Byte) : Nat :=
  bytes.foldl (fun acc b => acc * 256 + b.toNat) 0

/-- One bit of the CRC (R175): combine it with the register's top bit, shift, and combine with 0x1021. -/
def crcBit (reg : BitVec 16) (bit : Bool) : BitVec 16 :=
  if (reg.msb ^^ bit) = true then (reg <<< 1) ^^^ 0x1021 else reg <<< 1

/-- One covered byte of the CRC, most significant bit first (R175). -/
def crcByte (reg : BitVec 16) (b : Byte) : BitVec 16 :=
  [7, 6, 5, 4, 3, 2, 1, 0].foldl (fun reg k => crcBit reg (b.getLsbD k)) reg

/-- The CRC over a run of bytes: the register starts at 0xFFFF and is not inverted at the end (R175). -/
def crc16 (bytes : List Byte) : BitVec 16 :=
  bytes.foldl crcByte 0xFFFF

/-- The two bytes of a frame's CRC (R189, R190). -/
def crcBytes (bytes : List Byte) : List Byte := beBytes 2 (crc16 bytes).toNat

/-- The command codes (R190). -/
def codeGetIdentity : Byte := 0x01
def codeReadStatus : Byte := 0x02
def codeReadGlobal : Byte := 0x10
def codeWriteGlobal : Byte := 0x11
def codeReadRequester : Byte := 0x12
def codeWriteRequester : Byte := 0x13
def codeReadRange : Byte := 0x14
def codeWriteRange : Byte := 0x15
def codeCopyActiveToStaged : Byte := 0x16
def codeCommit : Byte := 0x20
def codeCancelCommit : Byte := 0x21
def codeRestart : Byte := 0x22
def codeRecoverDownstream : Byte := 0x23
def codeIsolate : Byte := 0x30
def codeRelease : Byte := 0x31
def codeReadHold : Byte := 0x40
def codeReadSlots : Byte := 0x41
def codeReadLog : Byte := 0x42
def codeSetAlertMask : Byte := 0x50
def codeAckAlert : Byte := 0x51

/-- The fixed parameter length of each command code (R190); none for a code that is not one of the 20. -/
def parameterLength (code : Byte) : Option Nat :=
  if code = codeGetIdentity then some 0
  else if code = codeReadStatus then some 0
  else if code = codeReadGlobal then some 1
  else if code = codeWriteGlobal then some 13
  else if code = codeReadRequester then some 2
  else if code = codeWriteRequester then some 11
  else if code = codeReadRange then some 2
  else if code = codeWriteRange then some 15
  else if code = codeCopyActiveToStaged then some 0
  else if code = codeCommit then some 1
  else if code = codeCancelCommit then some 0
  else if code = codeRestart then some 0
  else if code = codeRecoverDownstream then some 0
  else if code = codeIsolate then some 1
  else if code = codeRelease then some 1
  else if code = codeReadHold then some 1
  else if code = codeReadSlots then some 0
  else if code = codeReadLog then some 1
  else if code = codeSetAlertMask then some 1
  else if code = codeAckAlert then some 1
  else none

/-- The command of a code and its parameter bytes; where a command carries an index and a selector, the index comes
first (R190). Parameters the bytes do not reach read as 0, which a checked frame never needs. -/
def commandOf (seq code : Byte) (ps : List Byte) : Option Instr :=
  if code = codeGetIdentity then some (.getIdentity seq)
  else if code = codeReadStatus then some (.readStatus seq)
  else if code = codeReadGlobal then some (.readGlobal seq (ps.getD 0 0))
  else if code = codeWriteGlobal then some (.writeGlobal seq ps)
  else if code = codeReadRequester then some (.readRequester seq (ps.getD 0 0) (ps.getD 1 0))
  else if code = codeWriteRequester then some (.writeRequester seq (ps.getD 0 0) (ps.drop 1))
  else if code = codeReadRange then some (.readRange seq (ps.getD 0 0) (ps.getD 1 0))
  else if code = codeWriteRange then some (.writeRange seq (ps.getD 0 0) (ps.drop 1))
  else if code = codeCopyActiveToStaged then some (.copyActiveToStaged seq)
  else if code = codeCommit then some (.commit seq (ps.getD 0 0))
  else if code = codeCancelCommit then some (.cancelCommit seq)
  else if code = codeRestart then some (.restart seq)
  else if code = codeRecoverDownstream then some (.recoverDownstream seq)
  else if code = codeIsolate then some (.isolate seq (ps.getD 0 0))
  else if code = codeRelease then some (.release seq (ps.getD 0 0))
  else if code = codeReadHold then some (.readHold seq (ps.getD 0 0))
  else if code = codeReadSlots then some (.readSlots seq)
  else if code = codeReadLog then some (.readLog seq (ps.getD 0 0))
  else if code = codeSetAlertMask then some (.setAlertMask seq (ps.getD 0 0))
  else if code = codeAckAlert then some (.ackAlert seq (ps.getD 0 0))
  else none

/-- The verdict of the checks of R174 on the bytes after a COMMAND marker. -/
inductive FrameVerdict where
  /-- All four checks pass: the frame is executed as this command. -/
  | command (c : Instr)
  /-- Steps 1, 2 or 4: FRAME_ERROR. -/
  | frameError
  /-- Step 3: UNKNOWN_COMMAND. -/
  | unknownCommand
  deriving DecidableEq, Repr

/-- The parameter length a frame states: its third byte (R190). -/
def statedLength (frame : List Byte) : Nat := (frame.getD 2 0).toNat

/-- Step 1 of R174: the frame is at most 64 bytes, holds the three header fields and the CRC, states a parameter
length of at most 59, and holds as many bytes as its header, its parameters and its CRC. -/
def lengthConsistent (frame : List Byte) : Bool :=
  decide (frame.length ≤ Config.maxFrameBytes) && decide (5 ≤ frame.length) &&
    decide (statedLength frame ≤ Config.maxParameterBytes) && decide (frame.length = 5 + statedLength frame)

/-- Step 2 of R174: the CRC received is the CRC over the sequence number through the last parameter (R175). -/
def crcAgrees (frame : List Byte) : Bool :=
  frame.drop (3 + statedLength frame) == crcBytes (frame.take (3 + statedLength frame))

/-- The four checks of R174, in their order. -/
def checkFrame (frame : List Byte) : FrameVerdict :=
  if lengthConsistent frame && crcAgrees frame then
    match parameterLength (frame.getD 1 0) with
    | none => .unknownCommand
    | some p =>
      if p = statedLength frame then
        match commandOf (frame.getD 0 0) (frame.getD 1 0) ((frame.drop 3).take p) with
        | some c => .command c
        | none => .unknownCommand
      else .frameError
  else .frameError

/-- The command frame of a sequence number, a code and parameters (R190), as a host sends it. -/
def commandFrame (seq code : Byte) (ps : List Byte) : List Byte :=
  let covered := [seq, code, BitVec.ofNat 8 ps.length] ++ ps
  covered ++ crcBytes covered

/-- The frame of each M-link command (R190); none for the rows that no command frame carries. -/
def frameOf : Instr → Option (List Byte)
  | .getIdentity seq => some (commandFrame seq codeGetIdentity [])
  | .readStatus seq => some (commandFrame seq codeReadStatus [])
  | .readGlobal seq copy => some (commandFrame seq codeReadGlobal [copy])
  | .writeGlobal seq block => some (commandFrame seq codeWriteGlobal block)
  | .readRequester seq index copy => some (commandFrame seq codeReadRequester [index, copy])
  | .writeRequester seq index block => some (commandFrame seq codeWriteRequester (index :: block))
  | .readRange seq index copy => some (commandFrame seq codeReadRange [index, copy])
  | .writeRange seq index block => some (commandFrame seq codeWriteRange (index :: block))
  | .copyActiveToStaged seq => some (commandFrame seq codeCopyActiveToStaged [])
  | .commit seq mode => some (commandFrame seq codeCommit [mode])
  | .cancelCommit seq => some (commandFrame seq codeCancelCommit [])
  | .restart seq => some (commandFrame seq codeRestart [])
  | .recoverDownstream seq => some (commandFrame seq codeRecoverDownstream [])
  | .isolate seq requester => some (commandFrame seq codeIsolate [requester])
  | .release seq requester => some (commandFrame seq codeRelease [requester])
  | .readHold seq requester => some (commandFrame seq codeReadHold [requester])
  | .readSlots seq => some (commandFrame seq codeReadSlots [])
  | .readLog seq count => some (commandFrame seq codeReadLog [count])
  | .setAlertMask seq set => some (commandFrame seq codeSetAlertMask [set])
  | .ackAlert seq set => some (commandFrame seq codeAckAlert [set])
  | .tick => none
  | .windowEndByExpiry => none
  | .sync => none
  | .holdExpiry => none
  | .drainedCommitApply => none
  | .commitAbandoned => none
  | .transactionTaken _ => none
  | .heldEntryRelease => none
  | .issue => none
  | .completion _ _ _ => none
  | .completionTimeout => none
  | .restartNormalEnd => none
  | .restartForcedEnd => none
  | .reset => none
  | .answerRead _ => none
  | .commandFrameRefused _ => none

/-- The command a word spells by the table's bits. spec/opcode_table.json gives no row any bits ("fields": [] and no
"fixed" for every row), so no word spells a command (log entry 3). -/
def decodeTableWord (_nbits _w : Nat) : Option Instr := none

end Sys2Proof
end

