-- ==== Sys2Proof/Machine/Operands.lean ====
section
/-! DEFINITION. The values that cross the M-link: reading parameter blocks (R189, R191), the ranges of the
configuration fields (R67, R140, R141), the checks of COMMIT (R145), and the bytes of every result (R190 to R193). -/

namespace Sys2Proof.Machine

/-! ## Enumerations, yes/no fields and sets (R189) -/

/-- A yes/no field: 0x00 or 0x01, any other byte names no value (R189). -/
def boolOfByte (b : Byte) : Option Bool :=
  if b = 0 then some false else if b = 1 then some true else none

/-- The byte of a yes/no field (R189). -/
def boolByte (b : Bool) : Byte := if b then 1 else 0

/-- The mode byte (R191). -/
def modeOfByte (b : Byte) : Option Mode :=
  if b = 0 then some .transparent else if b = 1 then some .regulating else none

def Mode.byte : Mode → Byte
  | .transparent => 0
  | .regulating => 1

/-- The kinds byte of a range entry (R191). -/
def kindsOfByte (b : Byte) : Option RangeKinds :=
  if b = 1 then some .read else if b = 2 then some .write else if b = 3 then some .both else none

def RangeKinds.byte : RangeKinds → Byte
  | .read => 1
  | .write => 2
  | .both => 3

/-- The action byte of a range entry (R191). -/
def actionOfByte (b : Byte) : Option RangeAction :=
  if b = 0 then some .pass else if b = 1 then some .deny else if b = 2 then some .curb
  else if b = 3 then some .isolate else none

def RangeAction.byte : RangeAction → Byte
  | .pass => 0
  | .deny => 1
  | .curb => 2
  | .isolate => 3

/-- The classes byte: bits 4 to 7 must be clear (R191). -/
def classesOfByte (b : Byte) : Option (BitVec 4) :=
  if b.toNat < 16 then some (BitVec.ofNat 4 b.toNat) else none

def classesByte (c : BitVec 4) : Byte := BitVec.ofNat 8 c.toNat

/-- Class `n` is one of the set (R67, R191). -/
def hasClass (c : BitVec 4) (n : Nat) : Bool := c.getLsbD n

/-- The commit mode byte (R190). -/
def commitModeOfByte (b : Byte) : Option CommitMode :=
  if b = 0 then some .boundary else if b = 1 then some .drained else none

/-- Which copy a read command names (R181). -/
inductive Copy where
  | staged
  | active
  deriving DecidableEq, Repr

/-- The copy selector byte (R190). -/
def copyOfByte (b : Byte) : Option Copy :=
  if b = 0 then some .staged else if b = 1 then some .active else none

/-- A requester number carried in one byte; above 31 it is no requester (R189). -/
def requesterOfByte (b : Byte) : Option RequesterId :=
  if h : b.toNat < 32 then some ⟨b.toNat, h⟩ else none

/-- A range index carried in one byte; above 15 it is no range entry (R189). -/
def rangeOfByte (b : Byte) : Option RangeId :=
  if h : b.toNat < 16 then some ⟨b.toNat, h⟩ else none

/-- The kind byte of READ_HOLD and READ_SLOTS records (R192). -/
def kindByte : Kind → Byte
  | .read => 1
  | .write => 2

/-- The alert set byte: bit 7 names no cause (R190). -/
def alertSetOfByte (b : Byte) : Option AlertSet :=
  if b.getLsbD 7 then none
  else some
    { isolation := b.getLsbD 0, quarantine := b.getLsbD 1, commitDone := b.getLsbD 2,
      commitFailed := b.getLsbD 3, restartDone := b.getLsbD 4, logLost := b.getLsbD 5,
      logPending := b.getLsbD 6 }

/-- The byte of an alert set (R190). -/
def AlertSet.byte (a : AlertSet) : Byte :=
  BitVec.ofNat 8 (a.isolation.toNat + 2 * a.quarantine.toNat + 4 * a.commitDone.toNat +
    8 * a.commitFailed.toNat + 16 * a.restartDone.toNat + 32 * a.logLost.toNat + 64 * a.logPending.toNat)

/-! ## The ranges of the configuration fields -/

/-- Every field of a global block is in its range (R140). -/
def GlobalBlock.inRange (g : GlobalBlock) : Bool :=
  decide (16 ≤ g.period) && decide (g.period ≤ 65535) && decide (g.syncPhase ≤ 65535) &&
    decide (g.syncGuard ≤ 65535) && decide (g.completionLimit ≤ 65535) && decide (1 ≤ g.drainLimit) &&
    decide (g.drainLimit ≤ 65535) && decide (g.holdAgeLimit ≤ 15)

/-- Every field of a requester entry is in its range (R141). -/
def RequesterEntry.inRange (e : RequesterEntry) : Bool :=
  decide (e.allowance ≤ 65535) && decide (e.carryLimit ≤ 65535) && decide (e.level ≤ 7) &&
    decide (e.cls ≤ 3) && decide (e.holdShare ≤ 48) && decide (e.escalationLimit ≤ 15)

/-- Every field of a range entry is in its range: the base a multiple of 256, the limit one below a multiple of 256
(R67). -/
def RangeEntry.inRange (e : RangeEntry) : Bool :=
  decide (e.base.toNat % 256 = 0) && decide (e.limit.toNat % 256 = 255)

/-! ## Reading the configuration blocks (R191) -/

/-- The thirteen bytes of a global block; none when a byte names no value of its field. -/
def GlobalBlock.read : List Byte → Option GlobalBlock
  | [m, p1, p0, e, f1, f0, g1, g0, c1, c0, d1, d0, h] =>
    match modeOfByte m, boolOfByte e with
    | some mode, some enable =>
      some
        { mode := mode, period := ofBeBytes [p1, p0], syncEnable := enable, syncPhase := ofBeBytes [f1, f0],
          syncGuard := ofBeBytes [g1, g0], completionLimit := ofBeBytes [c1, c0],
          drainLimit := ofBeBytes [d1, d0], holdAgeLimit := h.toNat }
    | _, _ => none
  | _ => none

/-- The ten bytes of a requester block. -/
def RequesterEntry.read : List Byte → Option RequesterEntry
  | [p, r, a1, a0, c1, c0, l, k, s, e] =>
    match boolOfByte p, boolOfByte r with
    | some present, some regulated =>
      some
        { present := present, regulated := regulated, allowance := ofBeBytes [a1, a0],
          carryLimit := ofBeBytes [c1, c0], level := l.toNat, cls := k.toNat, holdShare := s.toNat,
          escalationLimit := e.toNat }
    | _, _ => none
  | _ => none

/-- The fourteen bytes of a range block. -/
def RangeEntry.read : List Byte → Option RangeEntry
  | [v, b4, b3, b2, b1, b0, l4, l3, l2, l1, l0, k, c, a] =>
    match boolOfByte v, kindsOfByte k, classesOfByte c, actionOfByte a with
    | some valid, some kinds, some classes, some action =>
      some
        { valid := valid, base := BitVec.ofNat 40 (ofBeBytes [b4, b3, b2, b1, b0]),
          limit := BitVec.ofNat 40 (ofBeBytes [l4, l3, l2, l1, l0]), kinds := kinds, classes := classes,
          action := action }
    | _, _, _, _ => none
  | _ => none

/-- A value that passes its range check, else none (BAD_VALUE, R182). -/
def checked {α : Type} (inRange : α → Bool) : Option α → Option α
  | some x => if inRange x then some x else none
  | none => none

/-- The global block a WRITE_GLOBAL carries, when every field is in range (R142). -/
def globalOfBytes (bytes : List Byte) : Option GlobalBlock :=
  checked GlobalBlock.inRange (GlobalBlock.read bytes)

/-- The requester entry a WRITE_REQUESTER carries, when every field is in range (R142). -/
def requesterEntryOfBytes (bytes : List Byte) : Option RequesterEntry :=
  checked RequesterEntry.inRange (RequesterEntry.read bytes)

/-- The range entry a WRITE_RANGE carries, when every field is in range (R142). -/
def rangeEntryOfBytes (bytes : List Byte) : Option RangeEntry :=
  checked RangeEntry.inRange (RangeEntry.read bytes)

/-! ## The checks of COMMIT (R145) -/

/-- The item a refused COMMIT names (R183). -/
inductive ConfigItem where
  | global
  | requester (r : RequesterId)
  | range (n : RangeId)
  deriving DecidableEq, Repr

/-- The check of the global block: the sync phase below the window period, the sync guard at most the period. -/
def GlobalBlock.commitOk (g : GlobalBlock) : Bool :=
  decide (g.syncPhase < g.period) && decide (g.syncGuard ≤ g.period)

/-- The check of a requester entry: when present and regulated, an allowance of at least 1 and a carry limit of at
most the allowance. -/
def RequesterEntry.commitOk (e : RequesterEntry) : Bool :=
  !(e.present && e.regulated) || (decide (1 ≤ e.allowance) && decide (e.carryLimit ≤ e.allowance))

/-- The check of a range entry, valid or not: its base at most its limit, its classes not empty (R68). -/
def RangeEntry.commitOk (e : RangeEntry) : Bool :=
  decide (e.base.toNat ≤ e.limit.toNat) && decide (e.classes ≠ 0)

/-- The first item of a configuration that fails its check: the global block, then the requester entries, then the
range entries, each table in ascending order (R145). -/
def Configuration.firstBadItem (c : Configuration) : Option ConfigItem :=
  if c.global.commitOk then
    match (List.finRange 32).find? (fun r => !(c.requesters[r]).commitOk) with
    | some r => some (.requester r)
    | none =>
      match (List.finRange 16).find? (fun n => !(c.ranges[n]).commitOk) with
      | some n => some (.range n)
      | none => none
  else some .global

/-- The two result bytes of BAD_CONFIG: item kind, item index (R190). -/
def ConfigItem.bytes : ConfigItem → List Byte
  | .global => [0, 0]
  | .requester r => [1, BitVec.ofNat 8 r.val]
  | .range n => [2, BitVec.ofNat 8 n.val]

/-! ## Result bytes -/

/-- The status codes (R190). -/
def Status.code : Status → Byte
  | .done => 0x00
  | .accepted => 0x01
  | .busy => 0x10
  | .frozen => 0x11
  | .badIndex => 0x12
  | .badValue => 0x13
  | .badConfig => 0x14
  | .notPresent => 0x15
  | .unknownCommand => 0x20
  | .frameError => 0x21
  | .noAnswer => 0x22

/-- The header and results of an answer frame, which its CRC covers (R175, R190). -/
def Answer.covered (a : Answer) : List Byte :=
  [a.seq, a.code, a.status.code, BitVec.ofNat 8 a.results.length] ++ a.results

/-- An answer frame, byte by byte (R176, R190). -/
def Answer.bytes (a : Answer) : List Byte := a.covered ++ crcBytes a.covered

/-- The 13 bytes of a global block (R191). -/
def GlobalBlock.bytes (g : GlobalBlock) : List Byte :=
  [g.mode.byte] ++ beBytes 2 g.period ++ [boolByte g.syncEnable] ++ beBytes 2 g.syncPhase ++
    beBytes 2 g.syncGuard ++ beBytes 2 g.completionLimit ++ beBytes 2 g.drainLimit ++ beBytes 1 g.holdAgeLimit

/-- The 10 bytes of a requester block (R191). -/
def RequesterEntry.bytes (e : RequesterEntry) : List Byte :=
  [boolByte e.present, boolByte e.regulated] ++ beBytes 2 e.allowance ++ beBytes 2 e.carryLimit ++
    beBytes 1 e.level ++ beBytes 1 e.cls ++ beBytes 1 e.holdShare ++ beBytes 1 e.escalationLimit

/-- The 14 bytes of a range block (R191). -/
def RangeEntry.bytes (e : RangeEntry) : List Byte :=
  [boolByte e.valid] ++ beBytes 5 e.base.toNat ++ beBytes 5 e.limit.toNat ++
    [e.kinds.byte, classesByte e.classes, e.action.byte]

/-- The balance as a 4-byte two's-complement value (R189). -/
def balanceBytes (b : Int) : List Byte := beBytes 4 (BitVec.ofInt 32 b).toNat

def Standing.byte : Standing → Byte
  | .free => 0
  | .curbed => 1
  | .isolated => 2

/-- The 16 bytes of dynamic state that follow an active requester block (R191). -/
def dynamicBytes (a : Account) (x : Restraint) (held : Nat) : List Byte :=
  balanceBytes a.balance ++ [x.standing.byte] ++ beBytes 1 x.strikes ++ [boolByte x.curbHit] ++
    beBytes 1 held ++ beBytes 2 a.beatsThis ++ beBytes 2 a.beatsLast ++ beBytes 2 a.retryCount.toNat ++
    beBytes 2 a.deniedCount.toNat

/-- The commit state byte (R192). -/
def CommitState.byte : CommitState → Byte
  | .idle => 0
  | .armed _ => 1
  | .draining _ _ => 2

/-- The last commit outcome byte (R192). -/
def CommitOutcome.byte : CommitOutcome → Byte
  | .none => 0
  | .applied => 1
  | .cancelled => 2
  | .abandoned => 3
  | .cancelledByRestart => 4

/-- The restart state byte (R192). -/
def RestartState.byte : RestartState → Byte
  | .idle => 0
  | .draining _ _ => 1

/-- One 4-byte record of READ_HOLD (R192). -/
def HeldEntry.bytes (e : HeldEntry) : List Byte :=
  [e.txn.tag, kindByte e.txn.kind] ++ beBytes 1 e.txn.length.val ++ beBytes 1 e.age

def PieceRole.byte : PieceRole → Byte
  | .whole => 1
  | .first => 2
  | .second => 3

def PieceOutcome.byte : PieceOutcome → Byte
  | .pending => 0
  | .ok => 1
  | .error => 2
  | .timeout => 3

/-- The partner slot byte: 0xFF when absent (R192). -/
def partnerByte : Option SlotId → Byte
  | none => 0xFF
  | some p => BitVec.ofNat 8 p.val

/-- The 14 bytes after the state byte of a slot that is not FREE (R192). -/
def SlotRecord.bytes (r : SlotRecord) : List Byte :=
  [BitVec.ofNat 8 r.requester.val, r.tag, kindByte r.kind] ++ beBytes 5 r.address.toNat ++ beBytes 1 r.length ++
    [r.role.byte, partnerByte r.partner] ++ beBytes 2 r.ticks ++ [r.outcome.byte]

/-- One 15-byte slot record of READ_SLOTS; a FREE slot's is its state byte and 14 bytes of 0x00 (R192). -/
def Slot.bytes : Slot → List Byte
  | .free => List.replicate 15 0
  | .issued r => 1 :: r.bytes
  | .doneWaiting r => 2 :: r.bytes
  | .abandoned r => 3 :: r.bytes

/-- The kind codes of incident records (R193). -/
def Incident.kindCode : Incident → Byte
  | .malformed _ _ _ => 0x01
  | .duplicateTag _ _ => 0x02
  | .unknownRequester _ _ => 0x03
  | .rangeDeny _ _ _ _ => 0x04
  | .rangeCurb _ _ _ _ => 0x05
  | .rangeIsolate _ _ _ _ => 0x06
  | .escalated _ => 0x07
  | .managedIsolate _ => 0x08
  | .holdExpired _ _ => 0x09
  | .completionTimeout _ _ _ => 0x0A
  | .memoryError _ _ _ _ => 0x0B
  | .lateCompletion _ => 0x0C
  | .strayCompletion _ => 0x0D
  | .commitApplied => 0x0E
  | .commitAbandoned => 0x0F
  | .syncEarly => 0x10
  | .restartForced _ => 0x11

/-- The optional fields of an incident (R160). -/
structure IncidentFields where
  requester : Option RequesterId
  tag : Option Tag
  address : Option Addr
  range : Option RangeId
  slot : Option SlotId
  count : Option Nat
  deriving DecidableEq, Repr

/-- Which optional fields each kind carries (the table of R160). -/
def Incident.fields : Incident → IncidentFields
  | .malformed r t a => ⟨some r, some t, some a, none, none, none⟩
  | .duplicateTag r t => ⟨some r, some t, none, none, none, none⟩
  | .unknownRequester r t => ⟨some r, some t, none, none, none, none⟩
  | .rangeDeny r t a n => ⟨some r, some t, some a, some n, none, none⟩
  | .rangeCurb r t a n => ⟨some r, some t, some a, some n, none, none⟩
  | .rangeIsolate r t a n => ⟨some r, some t, some a, some n, none, none⟩
  | .escalated r => ⟨some r, none, none, none, none, none⟩
  | .managedIsolate r => ⟨some r, none, none, none, none, none⟩
  | .holdExpired r t => ⟨some r, some t, none, none, none, none⟩
  | .completionTimeout r t i => ⟨some r, some t, none, none, some i, none⟩
  | .memoryError r t i a => ⟨some r, some t, some a, none, some i, none⟩
  | .lateCompletion i => ⟨none, none, none, none, some i, none⟩
  | .strayCompletion i => ⟨none, none, none, none, some i, none⟩
  | .commitApplied => ⟨none, none, none, none, none, none⟩
  | .commitAbandoned => ⟨none, none, none, none, none, none⟩
  | .syncEarly => ⟨none, none, none, none, none, none⟩
  | .restartForced n => ⟨none, none, none, none, none, some n⟩

/-- The fields-present byte (R193). -/
def IncidentFields.presentByte (f : IncidentFields) : Byte :=
  BitVec.ofNat 8 (f.requester.isSome.toNat + 2 * f.tag.isSome.toNat + 4 * f.address.isSome.toNat +
    8 * f.range.isSome.toNat + 16 * f.slot.isSome.toNat + 32 * f.count.isSome.toNat)

/-- The 16 bytes of an incident record; a field that is absent is sent as 0x00 (R193). -/
def IncidentRecord.bytes (x : IncidentRecord) : List Byte :=
  let f := x.incident.fields
  beBytes 2 x.seq.toNat ++ [x.incident.kindCode] ++ beBytes 2 x.window.toNat ++ [f.presentByte] ++
    beBytes 1 ((f.requester.map Fin.val).getD 0) ++ beBytes 1 ((f.tag.map BitVec.toNat).getD 0) ++
    beBytes 5 ((f.address.map BitVec.toNat).getD 0) ++ beBytes 1 ((f.range.map Fin.val).getD 0) ++
    beBytes 1 ((f.slot.map Fin.val).getD 0) ++ beBytes 1 (f.count.getD 0)

/-- The results of GET_IDENTITY: family, part number 432, revision, and the capacities (R180, R192). -/
def identityBytes : List Byte :=
  [0x57, 0x4C, 0x01, 0xB0, Config.revision, 32, 16, 48, 8, 16, 32]

end Sys2Proof.Machine
end

