-- ==== Sys2Proof/Machine/Ops.lean ====
section
/-! DEFINITION. The operations the meanings share: reading and writing the tables, giving responses, flushes,
isolation, the accounts, the outstanding table, the window end and its effects, the apply of a commit, the restart's
end, the due steps that are taken before other events, and the taking of a management command. -/

namespace Sys2Proof.Machine

/-! ## Reading and writing the tables -/

/-- A requester's active entry (R141). -/
def State.entry (s : State) (r : RequesterId) : RequesterEntry := s.active.requesters[r]

def State.account (s : State) (r : RequesterId) : Account := s.accounts[r]

def State.restraint (s : State) (r : RequesterId) : Restraint := s.restraints[r]

def State.slot (s : State) (i : SlotId) : Slot := s.slots[i]

def State.setAccount (s : State) (r : RequesterId) (a : Account) : State :=
  { s with accounts := Table.put s.accounts r a }

def State.setRestraint (s : State) (r : RequesterId) (x : Restraint) : State :=
  { s with restraints := Table.put s.restraints r x }

def State.setSlot (s : State) (i : SlotId) (x : Slot) : State :=
  { s with slots := Table.put s.slots i x }

/-- The mode of the active configuration is REGULATING (R28). -/
def State.regulating (s : State) : Bool := decide (s.active.global.mode = .regulating)

/-- The requester is present and regulated in the active configuration (R10). -/
def RequesterEntry.accounted (e : RequesterEntry) : Bool := e.present && e.regulated

/-- A new command starts with nothing on the output ports. -/
def State.clearOut (s : State) : State := { s with out := Outputs.none }

/-! ## Responses and the counts of refusals -/

/-- Giving a response on the U-port (R22). -/
def State.respond (s : State) (r : Response) : State :=
  { s with out := { s.out with responses := s.out.responses ++ [r] } }

/-- A response without data (R22). -/
def plainResponse (r : RequesterId) (t : Tag) (o : ResponseOutcome) : Response :=
  { requester := r, tag := t, outcome := o, data := [] }

/-- The account after one more RETRY or DENIED response; DONE and FAULT are not counted (R17). -/
def Account.counted (a : Account) : ResponseOutcome → Account
  | .retry => { a with retryCount := a.retryCount + 1 }
  | .denied => { a with deniedCount := a.deniedCount + 1 }
  | .done => a
  | .fault => a

/-- Answering a transaction that does not reach memory: the response, counted when the requester is present in the
active configuration at that moment (R17). -/
def State.refuse (s : State) (t : Transaction) (o : ResponseOutcome) : State :=
  let s := s.respond (plainResponse t.requester t.tag o)
  if (s.entry t.requester).present then s.setAccount t.requester ((s.account t.requester).counted o) else s

/-- Answering each of a list of transactions, in list order. -/
def State.refuseAll (s : State) (ts : List Transaction) (o : ResponseOutcome) : State :=
  ts.foldl (fun s t => s.refuse t o) s

/-! ## The hold queue (chapter 3) -/

/-- The requester's held count (R47). -/
def State.heldCount (s : State) (r : RequesterId) : Nat :=
  (s.hold.filter fun e => decide (e.txn.requester = r)).length

/-- A flush: the entries named leave the list and are answered in list order (section 3.5). -/
def State.flush (s : State) (named : HeldEntry → Bool) (o : ResponseOutcome) : State :=
  { s with hold := s.hold.filter fun e => !named e }.refuseAll ((s.hold.filter named).map HeldEntry.txn) o

/-- The age after one more window end: saturating at 15 (R49). -/
def HeldEntry.aged (e : HeldEntry) : HeldEntry := { e with age := min (e.age + 1) 15 }

/-- Ageing at a window end (R49). -/
def State.ageHold (s : State) : State := { s with hold := s.hold.map HeldEntry.aged }

/-- An entry whose age is at or above a hold age limit that is not 0 (R50). -/
def HeldEntry.overAge (limit : Nat) (e : HeldEntry) : Bool := decide (limit ≠ 0) && decide (limit ≤ e.age)

/-- One expired entry is answered RETRY, and HOLD_EXPIRED is recorded for it (R50). -/
def State.expireEntry (s : State) (e : HeldEntry) : State :=
  (s.refuse e.txn .retry).record (.holdExpired e.txn.requester e.txn.tag)

/-- The hold queue reads the active hold age limit, and every entry at or above it expires, in list order (R50). -/
def State.expireHold (s : State) : State :=
  let gone := HeldEntry.overAge s.active.global.holdAgeLimit
  (s.hold.filter gone).foldl State.expireEntry { s with hold := s.hold.filter fun e => !gone e }

/-! ## Restraint (chapter 5) -/

/-- A requester becomes ISOLATED: its standing, the flush of its held entries with DENIED, and cause ISOLATION; its
strike count and curb-hit flag stay (R84, R60). -/
def State.isolate (s : State) (r : RequesterId) : State :=
  ((s.setRestraint r { s.restraint r with standing := .isolated }).flush
    (fun e => decide (e.txn.requester = r)) .denied).latch LatchedCauses.withIsolation

/-- The evaluation of one record by its curb-hit flag (R88). -/
def Restraint.evaluated (x : Restraint) : Restraint :=
  if x.curbHit then { standing := .curbed, strikes := min (x.strikes + 1) 15, curbHit := false }
  else { standing := .free, strikes := x.strikes - 1, curbHit := false }

/-- The requester is evaluated at a window end: REGULATING mode, present, not ISOLATED (R87). -/
def State.evaluates (s : State) (r : RequesterId) : Bool :=
  s.regulating && (s.entry r).present && decide ((s.restraint r).standing ≠ .isolated)

/-- The evaluation escalates the requester: its limit is not 0 and its strike count after R88 is at or above it
(R89). -/
def State.escalates (s : State) (r : RequesterId) : Bool :=
  s.evaluates r && decide ((s.entry r).escalationLimit ≠ 0) &&
    decide ((s.entry r).escalationLimit ≤ (s.restraint r).evaluated.strikes)

/-- One requester's evaluation at a window end: R88, then R89. -/
def State.evaluateRequester (s : State) (r : RequesterId) : State :=
  if s.evaluates r then
    let s' := s.setRestraint r (s.restraint r).evaluated
    if s.escalates r then (s'.isolate r).record (.escalated r) else s'
  else s

/-- The evaluation at a window end, in ascending order of requester number. R87 gives that order to the ESCALATED records;
that the DENIED responses of two requesters' flushes follow it too is a DESIGN CHOICE (log entry 8): R60 and R84 order the
entries of one requester only. -/
def State.evaluateAll (s : State) : State := (List.finRange 32).foldl State.evaluateRequester s

/-! ## The allowance accounts (chapter 1) -/

/-- The refill formula (R13). -/
def refilled (allowance carry : Nat) (balance : Int) : Int :=
  if 0 ≤ balance then (allowance : Int) + min balance (carry : Int) else (allowance : Int) + balance

/-- The refill at a window end, for present regulated requesters, in either mode (R13, R14). -/
def State.refill (s : State) : State :=
  { s with accounts := Table.remap s.accounts fun r a =>
      if (s.entry r).accounted then
        { a with balance := refilled (s.entry r).allowance (s.entry r).carryLimit a.balance }
      else a }

/-- The rollover of the beats statistics at a window end (R16). -/
def State.rollover (s : State) : State :=
  { s with accounts := Table.remap s.accounts fun _ a => { a with beatsLast := a.beatsThis, beatsThis := 0 } }

/-- The account after forwarding a transaction: charged when it is to be charged (R11), counted in beats this window,
saturating at 65535 (R15). -/
def Account.forwarded (a : Account) (charge : Bool) (beats : Nat) : Account :=
  { a with balance := if charge then a.balance - (beats : Int) else a.balance,
           beatsThis := min (a.beatsThis + beats) 65535 }

/-- A transaction joins the tail of the issue queue, by forward or by release: the charge in REGULATING mode for a
present regulated requester (R11), the count of beats (R15), the new entry (R101). -/
def State.join (s : State) (t : Transaction) : State :=
  let charge := s.regulating && (s.entry t.requester).accounted
  { s.setAccount t.requester ((s.account t.requester).forwarded charge t.length.val) with
    issueQueue := s.issueQueue ++ [t] }

/-! ## The outstanding table (chapter 7) -/

def Slot.isFree : Slot → Bool
  | .free => true
  | .issued _ => false
  | .doneWaiting _ => false
  | .abandoned _ => false

def Slot.isIssued : Slot → Bool
  | .free => false
  | .issued _ => true
  | .doneWaiting _ => false
  | .abandoned _ => false

def Slot.isAbandoned : Slot → Bool
  | .free => false
  | .issued _ => false
  | .doneWaiting _ => false
  | .abandoned _ => true

def Slot.isDoneWaiting : Slot → Bool
  | .free => false
  | .issued _ => false
  | .doneWaiting _ => true
  | .abandoned _ => false

/-- The record of a slot whose transaction is live: ISSUED or DONE_WAITING (R26). -/
def Slot.liveRecord : Slot → Option SlotRecord
  | .free => none
  | .issued r => some r
  | .doneWaiting r => some r
  | .abandoned _ => none

/-- The slots that satisfy a test, in ascending order. -/
def State.slotsWhere (s : State) (p : Slot → Bool) : List SlotId :=
  (List.finRange 16).filter fun i => p (s.slot i)

/-- A record without its reference to the slots named (R126). -/
def SlotRecord.forget (freed : SlotId → Bool) (r : SlotRecord) : SlotRecord :=
  match r.partner with
  | none => r
  | some p => if freed p then { r with partner := none } else r

/-- A slot whose record forgets the slots named. -/
def Slot.forget (freed : SlotId → Bool) : Slot → Slot
  | .free => .free
  | .issued r => .issued (r.forget freed)
  | .doneWaiting r => .doneWaiting (r.forget freed)
  | .abandoned r => .abandoned (r.forget freed)

/-- The slots named go FREE in one event; no record goes on naming one of them as its partner (R119, R126). -/
def State.freeSlots (s : State) (freed : SlotId → Bool) : State :=
  { s with slots := Table.remap s.slots fun i x => if freed i then .free else x.forget freed }

/-- One slot goes FREE. -/
def State.freeSlot (s : State) (i : SlotId) : State := s.freeSlots fun j => decide (j = i)

/-- A FAULT response for the transaction of a slot record (R122, R124). -/
def State.fault (s : State) (r : SlotRecord) : State := s.respond (plainResponse r.requester r.tag .fault)

/-- The data of a record, if any. -/
def SlotRecord.beats (r : SlotRecord) : List Beat := r.readData.getD []

/-- A DONE response; a READ carries the pieces' data in address order (R122, R124). -/
def State.done (s : State) (r : SlotRecord) (data : List Beat) : State :=
  s.respond { requester := r.requester, tag := r.tag, outcome := .done,
              data := match r.kind with
                | .read => data
                | .write => [] }

/-- The data of two pieces in address order: the FIRST piece's, then the SECOND's (R124). -/
def pairData (r q : SlotRecord) : List Beat :=
  match r.role with
  | .second => q.beats ++ r.beats
  | .first => r.beats ++ q.beats
  | .whole => r.beats ++ q.beats

/-- The read data a piece takes from an OK completion: the first beats, missing ones taken as zeros (R120). -/
def takenData (length : Nat) (data : List Beat) : List Beat :=
  data.take length ++ List.replicate (length - data.length) 0

/-- A record after its completion (R120, R121): a READ piece that ended OK keeps its data. -/
def SlotRecord.completed (r : SlotRecord) (o : CompletionOutcome) (data : List Beat) : SlotRecord :=
  match o with
  | .error => { r with outcome := .error, readData := none }
  | .ok =>
    match r.kind with
    | .read => { r with outcome := .ok, readData := some (takenData r.length data) }
    | .write => { r with outcome := .ok, readData := none }

/-- The response of a whole transaction, and its slot goes FREE (R121, R124). -/
def State.endWhole (s : State) (i : SlotId) (r : SlotRecord) : State :=
  (if r.outcome = .ok then s.done r r.beats else s.fault r).freeSlot i

/-- The response of a split transaction whose pieces have both completed, and both slots go FREE (R121, R124). -/
def State.endPair (s : State) (i p : SlotId) (r q : SlotRecord) : State :=
  (if r.outcome = .ok ∧ q.outcome = .ok then s.done r (pairData r q) else s.fault r).freeSlots
    fun j => decide (j = i) || decide (j = p)

/-- The completed record `r` of ISSUED slot `i`: what follows by its role and its partner (R121). A reference to a
FREE slot does not arise (R126) and counts as an absent one. -/
def State.endPiece (s : State) (i : SlotId) (r : SlotRecord) : State :=
  match r.role with
  | .whole => s.endWhole i r
  | .first | .second =>
    match r.partner with
    | none => (s.fault r).freeSlot i
    | some p =>
      match s.slot p with
      | .issued _ => s.setSlot i (.doneWaiting r)
      | .doneWaiting q => s.endPair i p r q
      | .abandoned _ => (s.fault r).freeSlot i
      | .free => (s.fault r).freeSlot i

/-- The record of a piece that is abandoned (R128, R136). -/
def SlotRecord.timedOut (r : SlotRecord) : SlotRecord := { r with outcome := .timeout, readData := none }

/-- ISSUED slot `i` goes ABANDONED: the FAULT response is given when the piece is WHOLE or its partner has ended,
and a DONE_WAITING partner goes FREE (R128, R136). -/
def State.abandonSlot (s : State) (i : SlotId) (r : SlotRecord) : State :=
  let s := s.setSlot i (.abandoned r.timedOut)
  match r.role with
  | .whole => s.fault r
  | .first | .second =>
    match r.partner with
    | none => s.fault r
    | some p =>
      match s.slot p with
      | .issued _ => s
      | .doneWaiting _ => (s.fault r).freeSlot p
      | .abandoned _ => s.fault r
      | .free => s.fault r

/-- One slot's timeout at a tick: ABANDONED, COMPLETION_TIMEOUT recorded, QUARANTINE latched, FAULT where due
(R128). -/
def State.timeoutSlot (limit : Nat) (s : State) (i : SlotId) : State :=
  match s.slot i with
  | .issued r =>
    if limit ≠ 0 ∧ limit ≤ r.ticks then
      ((s.record (.completionTimeout r.requester r.tag i)).latch LatchedCauses.withQuarantine).abandonSlot i r
    else s
  | .free => s
  | .doneWaiting _ => s
  | .abandoned _ => s

/-- One slot at a forced restart end (R136). -/
def State.forceSlot (s : State) (i : SlotId) : State :=
  match s.slot i with
  | .issued r => s.abandonSlot i r
  | .free => s
  | .doneWaiting _ => s
  | .abandoned _ => s

/-- A slot after one more tick: an ISSUED slot counts it, saturating at 65535 (R127). -/
def Slot.ticked : Slot → Slot
  | .free => .free
  | .issued r => .issued { r with ticks := min (r.ticks + 1) 65535 }
  | .doneWaiting r => .doneWaiting r
  | .abandoned r => .abandoned r

/-- The drain, of a commit or of a restart, is complete: the issue queue is empty and no slot is ISSUED
(R149, R156). -/
def State.drained (s : State) : Bool := s.issueQueue.isEmpty && (s.slotsWhere Slot.isIssued).isEmpty

/-! ## The apply of a commit and the window end -/

/-- The held entries an apply flushes: those of requesters absent in the applied copy and, when the applied mode is
REGULATING, those of ISOLATED requesters (R61). -/
def State.applyFlushes (s : State) (e : HeldEntry) : Bool :=
  !(s.entry e.txn.requester).present ||
    (s.regulating && decide ((s.restraint e.txn.requester).standing = .isolated))

/-- The apply without its incident: the active copy becomes a copy of the staged copy, with the flush, the clearing
of absent requesters' records, the balances set to 0, the pause cleared, the outcome and cause COMMIT_DONE
(R151, R61, R95, R19). The window number is already that of the apply's window end. -/
def State.applyStaged (s : State) : State :=
  let s := { s with active := s.staged }
  let s := s.flush s.applyFlushes .denied
  { s with
    restraints := Table.remap s.restraints fun r x => if (s.entry r).present then x else Restraint.clean
    accounts := Table.remap s.accounts fun r a => if (s.entry r).accounted then a else { a with balance := 0 }
    commit := { state := .idle, pause := false, outcome := .applied, outcomeWindow := s.timer.windowNumber }
    latched := s.latched.withCommitDone }

/-- What brings a window end about (R6). -/
inductive WindowEndCause where
  | expiry
  | sync
  | commit
  deriving DecidableEq, Repr

/-- A commit is applied at this window end: an ARMED BOUNDARY commit at one by expiry or by sync (R146), a DRAINED
commit at the window end it produces (R149). -/
def State.applies (s : State) : WindowEndCause → Bool
  | .commit => true
  | .expiry => decide (s.commit.state = .armed .boundary)
  | .sync => decide (s.commit.state = .armed .boundary)

/-- The counter a window opens with: the sync phase of the active configuration as it stands after this window end
when sync caused it, else 0 (R2, R3, R5). -/
def State.openingCounter (s : State) : WindowEndCause → Nat
  | .sync => s.active.global.syncPhase
  | .expiry => 0
  | .commit => 0

/-- The held entries that expire at a window end: over age and not flushed by an escalation of the same window end
(R50, R89). Read after the ageing and before the evaluation. -/
def State.expiresNow (s : State) (e : HeldEntry) : Bool :=
  e.overAge s.active.global.holdAgeLimit && !s.escalates e.txn.requester

/-- The expiry of held entries when it comes before the evaluation of the same window end (R50, R162). -/
def State.expireBefore (s : State) : State :=
  (s.hold.filter s.expiresNow).foldl State.expireEntry { s with hold := s.hold.filter fun e => !s.expiresNow e }

/-- COMMIT_APPLIED is recorded when a commit is applied at this window end (R151). -/
def State.recordApplied (applied : Bool) (s : State) : State := if applied then s.record .commitApplied else s

/-- The blocks that record at this window end, two of them at least, join the log in an order that is left open: each
order of the commit controller and the restraint unit, the hold queue before both, between them, or (as step
HOLD_EXPIRY) after both (R162, log entry 2). -/
def State.joinInOpenOrder (applied : Bool) (s : State) : State :=
  let place := Config.expiryJoinsAt s.openChoices
  let first (s : State) : State := if place = .first then s.expireBefore else s
  let between (s : State) : State := if place = .between then s.expireBefore else s
  if Config.escalatedJoinFirst s.openChoices then
    State.recordApplied applied (between (first { s with openChoices := s.openChoices + 1 }).evaluateAll)
  else (between (State.recordApplied applied (first { s with openChoices := s.openChoices + 1 }))).evaluateAll

/-- Two blocks at least have an incident to record at this window end. -/
def State.joinOrderOpen (applied : Bool) (s : State) : Bool :=
  let escalated := (List.finRange 32).any s.escalates
  (applied && escalated) || ((applied || escalated) && s.hold.any s.expiresNow)

/-- The restraint evaluation, and the records that join the log at this window end (R87, R151, R162). -/
def State.joinRecords (applied : Bool) (s : State) : State :=
  if s.joinOrderOpen applied then s.joinInOpenOrder applied else (State.recordApplied applied s).evaluateAll

/-- The effects of the other blocks at a window end: refill, rollover, ageing, restraint evaluation (R6, R13, R16,
R49, R87), and the record of an apply (R151). -/
def State.windowEffects (applied : Bool) (s : State) : State := s.refill.rollover.ageHold.joinRecords applied

/-- An ARMED DRAINED commit enters its drain at a window end: the pause is set, the drain tick count is 0 and the
drain limit of the active global block is captured (R147). -/
def State.startDrain (s : State) : State :=
  if s.commit.state = .armed .drained then
    { s with commit := { s.commit with state := .draining 0 s.active.global.drainLimit, pause := true } }
  else s

/-- A window end (R2, R3, R5, R6, R146, R147). Its expiry of held entries is the step HOLD_EXPIRY, which is taken
next but for takings at the U-port (R41, log entry 5), unless their records join the log before another block's (R162). -/
def State.windowEnd (s : State) (cause : WindowEndCause) : State :=
  let number := s.timer.windowNumber + 1
  let applies := s.applies cause
  let s := { s with timer := { counter := 0, elapsed := 0, windowNumber := number } }
  let s := if applies then s.applyStaged else s
  let s := { s with timer := { s.timer with counter := s.openingCounter cause } }
  (s.windowEffects applies).startDrain

/-! ## The end of a restart (R157) -/

/-- The account at a restart's end (R18). -/
def restartedAccount (e : RequesterEntry) : Account :=
  { Account.zero with balance := if e.accounted then (e.allowance : Int) else 0 }

/-- The end of a regulation restart, normal or forced (R157, R7, R18, R96). -/
def State.restartEnd (s : State) : State :=
  { s with
    accounts := Table.remap s.accounts fun r _ => restartedAccount (s.entry r)
    restraints := Table.fill 32 Restraint.clean
    timer := { counter := 0, elapsed := 0, windowNumber := 0 }
    restart := .idle
    latched := s.latched.withRestartDone }

/-! ## The arbiter of the issue queue (R102) -/

/-- The first-listed entry of each requester not yet seen (R47). -/
def firstListedFrom (seen : List RequesterId) : List HeldEntry → List HeldEntry
  | [] => []
  | e :: q =>
    if e.txn.requester ∈ seen then firstListedFrom seen q
    else e :: firstListedFrom (e.txn.requester :: seen) q

/-- The first-listed entries of the hold queue, in list order (R47). -/
def firstListed (q : List HeldEntry) : List HeldEntry := firstListedFrom [] q

/-- The conditions of eligibility but for the free entry and being first-listed (R53). -/
def State.mayRelease (s : State) (r : RequesterId) : Bool :=
  !s.commit.pause && decide (s.restart = .idle) &&
    (!s.regulating ||
      (decide ((s.restraint r).standing = .free) &&
        (!(s.entry r).regulated || decide (1 ≤ (s.account r).balance))))

/-- The entries for which the release unit claims a free issue queue entry, in list order (R53, R102). -/
def State.claims (s : State) : List HeldEntry :=
  (firstListed s.hold).filter fun e => s.mayRelease e.txn.requester

/-- The issue queue has a free entry (R100). -/
def State.issueRoom (s : State) : Bool := decide (s.issueQueue.length < Config.issueCapacity)

/-- A request kept waiting is to be granted a free entry: two or more are free, or one is and the release unit does not
claim it (R102, R103). -/
def State.grantDue (s : State) : Bool :=
  decide (s.uPort = .waiting) && s.issueRoom &&
    (decide (s.issueQueue.length + 1 < Config.issueCapacity) || s.claims.isEmpty)

/-- The grant of a free entry to the waiting request, when it is due; the entry stays set aside for it (R102). -/
def State.takeGrant (s : State) : State := if s.grantDue then { s with uPort := .granted } else s

/-! ## The due steps: what a tick or a window end has brought about and is still to be taken -/

/-- The counter has reached the active period and the window end is still to be taken (R2). -/
def State.windowEndDue (s : State) : Bool := decide (s.active.global.period ≤ s.timer.counter)

/-- The window end by expiry, when it is due (R2). -/
def State.takeWindowEnd (s : State) : State := if s.windowEndDue then s.windowEnd .expiry else s

/-- The comparison of the slots' ticks with the completion limit, in ascending slot order, once for each tick (R128). The
limit is the one that stood at the tick: a commit applied at that tick's own window end reaches the slots from the next
tick (R129, R151), in whichever order the window end and the comparison are taken (DEDUCED, log entry 4). A piece issued just
before a tick counts that tick (R127), so under a limit of 1 it times out at that tick, though R112 has newly issued pieces
not reached by a timeout that falls together with their issue in either order (DESIGN CHOICE, log entry 4). -/
def State.takeTimeouts (s : State) : State :=
  match s.timeoutCheck with
  | some limit => (List.finRange 16).foldl (State.timeoutSlot limit) { s with timeoutCheck := none }
  | none => s

/-- The drain tick count of a DRAINING commit has reached the captured limit (R150). -/
def State.abandonDue (s : State) : Bool :=
  match s.commit.state with
  | .draining ticks limit => decide (limit ≤ ticks)
  | .idle => false
  | .armed _ => false

/-- The abandonment of a DRAINED commit at its drain limit, when it is due (R150). -/
def State.takeAbandon (s : State) : State :=
  if s.abandonDue then
    ({ s with commit := { state := .idle, pause := false, outcome := .abandoned,
                          outcomeWindow := s.timer.windowNumber } }.record .commitAbandoned).latch
      LatchedCauses.withCommitFailed
  else s

/-- The drain tick count of a DRAINING restart has reached the captured limit at a tick that found the drain not complete
(R157). A drain that was complete at that tick ends normally, whatever the count (R114, R158); one that a timeout of that
same tick completes is still ended by force, with no slot left to count (R136). -/
def State.forcedEndDue (s : State) : Bool :=
  match s.restart with
  | .draining ticks limit => decide (limit ≤ ticks) && s.forcedEnd
  | .idle => false

/-- The removal of every issue queue entry, head first, each answered RETRY (R115). -/
def State.removeQueued (s : State) : State :=
  { s with issueQueue := [] }.refuseAll s.issueQueue .retry

/-- Every ISSUED slot goes ABANDONED, in ascending order (R136). -/
def State.forceSlots (s : State) : State := (List.finRange 16).foldl State.forceSlot s

/-- The forced end at the issue queue and the outstanding table. Where both give responses their order is left open
(R115, R136, log entry 2). -/
def State.forcePath (s : State) : State :=
  if s.issueQueue.isEmpty || (s.slotsWhere Slot.isIssued).isEmpty then s.removeQueued.forceSlots
  else if Config.faultsFirst s.openChoices then { s with openChoices := s.openChoices + 1 }.forceSlots.removeQueued
  else { s with openChoices := s.openChoices + 1 }.removeQueued.forceSlots

/-- At a forced end: its tick counts as the first tick of window 0, because the end is taken before the window timer
takes the tick. So it is while the tick's window end by expiry is still due (R158); for a tick that ends no window the
order is left open (log entry 11). -/
def State.tickStillCounts (s : State) : Bool :=
  s.windowEndDue || (decide (s.timer.counter ≠ 0) && Config.forcedEndBeforeCount s.openChoices)

/-- The forced end of a restart, when it is due: the queued entries, the ISSUED slots, RESTART_FORCED with the count
of slots abandoned, then the restart's end (R115, R136, R157, R158). -/
def State.takeForcedEnd (s : State) : State :=
  if s.forcedEndDue then
    let count := (s.slotsWhere Slot.isIssued).length
    let stillCounts := s.tickStillCounts
    let s := { s with openChoices := s.openChoices + 1, forcedEnd := false }
    let s := (s.forcePath.record (.restartForced count)).restartEnd
    if stillCounts then { s with timer := { counter := 1, elapsed := 1, windowNumber := 0 } } else s
  else s

/-- What a tick has brought about at the window timer, the hold queue and the outstanding table is taken, in this
order where the queue of commands has not taken it in another (log entry 4). -/
def State.settleTick (s : State) : State := s.expireHold.takeWindowEnd.expireHold.takeTimeouts

/-- What is due besides: the abandonment, the forced end, and then the grant of free issue queue entries (R150, R157,
R102). -/
def State.settleDrains (s : State) : State := s.takeAbandon.takeForcedEnd.takeGrant

/-- Everything that is due is taken before an event of another kind (R2, R52, R179; log entry 4). -/
def State.settle (s : State) : State := s.settleTick.settleDrains

/-- Everything that is due before a taking at the U-port. Where the window end has been taken and its expiry has not, the
expiry stays due: either of the two may be taken first, and a transaction held now has age 0 and outlives it (R41, R42;
log entry 5). -/
def State.settleForTaking (s : State) : State :=
  (if s.windowEndDue then s.settleTick else s.takeTimeouts).settleDrains

/-- The start of a command that is an event of its own: nothing on the ports, nothing due. -/
def State.begin (s : State) : State := s.clearOut.settle

/-- The start of a taking at the U-port: nothing on the ports, nothing due but an expiry of held entries (R41). -/
def State.beginTaking (s : State) : State := s.clearOut.settleForTaking

/-- The start of a step that a tick or a window end has brought about: nothing on the ports, and the window end
before it whole (R52). -/
def State.beginDue (s : State) : State := s.clearOut.expireHold

/-- The start of a step that may race with an abandonment or a forced end (R150, R158): nothing on the ports, the
tick taken at the window timer, the hold queue and the outstanding table. -/
def State.beginRace (s : State) : State := s.clearOut.settleTick

/-! ## The management link (chapter 10) -/

/-- What an executed command does: its status, its results, and the part after its action (R177). -/
structure CommandResult where
  status : Status
  results : List Byte
  state : State

/-- A refusal changes nothing but the answer store (R177). -/
def refusedWith (s : State) (st : Status) : CommandResult := { status := st, results := [], state := s }

/-- DONE with results and no change of the part. -/
def answered (s : State) (results : List Byte) : CommandResult := { status := .done, results := results, state := s }

/-- DONE with no results. -/
def acted (s : State) : CommandResult := { status := .done, results := [], state := s }

/-- Bytes shifted out of the M-link. -/
def State.shiftOut (s : State) (bytes : List Byte) : State :=
  { s with out := { s.out with shifted := s.out.shifted ++ bytes } }

/-- Placing an answer in the store: an answer not yet consumed is discarded, and the last sequence number and
command code become those of the frame (R172). -/
def State.store (s : State) (seq code : Byte) (st : Status) (results : List Byte) : State :=
  { s with link := { answer := some { seq := seq, code := code, status := st, results := results },
                     lastSeq := seq, lastCode := code, select := .released } }

/-- A transfer that is ignored up to the end of its select period: fill bytes for every whole byte of it (R171, R188). -/
def State.ignoreTransfer (s : State) (bytes : Nat) : State :=
  { s with link := { s.link with select := .released } }.shiftOut (List.replicate bytes Config.fillByte)

/-- The action of a COMMAND transfer is taken and its answer placed in the store; fill bytes have been shifted out
throughout, `bytes` of them for the marker and the frame (R171, R172). -/
def State.execute (s : State) (seq code : Byte) (bytes : Nat) (act : State → CommandResult) : State :=
  let r := act s
  (r.state.store seq code r.status r.results).shiftOut (List.replicate bytes Config.fillByte)

/-- A COMMAND transfer when its select ends (R179). One within which a full reset was taken is ignored (R188). -/
def State.command (s : State) (seq code : Byte) (bytes : Nat) (act : State → CommandResult) : State :=
  let s := s.begin
  if s.link.select = .ignored then s.ignoreTransfer bytes else s.execute seq code bytes act

/-- The frame an ANSWER_READ shifts out: the stored answer, or a NO_ANSWER frame with the last sequence number and
command code (R173). -/
def Link.frame (l : Link) : Answer :=
  match l.answer with
  | some a => a
  | none => { seq := l.lastSeq, code := l.lastCode, status := .noAnswer, results := [] }

/-- What an ANSWER_READ shifts out: a fill byte during the marker, then `clocked` bytes of the frame and of the fill bytes
after it (R171, R173). -/
def Link.answerBytes (l : Link) (clocked : Nat) : List Byte :=
  Config.fillByte :: (l.frame.bytes ++ List.replicate clocked Config.fillByte).take clocked

/-- An ANSWER_READ transfer with `clocked` whole bytes after its marker; the store is empty when select ends (R171,
R173). One within which a full reset was taken is ignored (R188). -/
def State.answerRead (s : State) (clocked : Nat) : State :=
  if s.link.select = .ignored then s.ignoreTransfer (1 + clocked)
  else
    { s with link := { s.link with answer := none, select := .released } }.shiftOut (s.link.answerBytes clocked)

/-- The bytes shifted out so far in the select period in progress, when a full reset is taken within it: those of an
ANSWER_READ, else fill bytes (R171, R173, R188). Of a transfer already ignored they are not shown a second time. -/
def Link.shiftedSoFar (l : Link) : List Byte :=
  match l.select with
  | .released => []
  | .ignored => []
  | .receiving [] => []
  | .receiving (marker :: rest) =>
    if marker = Config.answerReadMarker then l.answerBytes rest.length
    else List.replicate (1 + rest.length) Config.fillByte

/-- The select period after a full reset: a transfer in progress is ignored up to its end (R188). -/
def SelectPeriod.afterReset : SelectPeriod → SelectPeriod
  | .released => .released
  | .receiving _ => .ignored
  | .ignored => .ignored

end Sys2Proof.Machine
end

