-- ==== Sys2Proof/Machine/Drain.lean ====
section
/-! DEFINITION. The ends of drains, of a commit and of a restart, and the full reset (chapter 8, R44). -/

namespace Sys2Proof.Machine

/-- A commit is DRAINING (R149). -/
def CommitState.isDraining : CommitState → Bool
  | .idle => false
  | .armed _ => false
  | .draining _ _ => true

/-- The apply of a DRAINED commit whose drain is complete, with its window end by commit (R149, R5). -/
def State.takeApply (s : State) : State :=
  if s.commit.state.isDraining && s.drained then s.windowEnd .commit else s

/-- DRAINED_COMMIT_APPLY (R149); nothing happens while the drain is not complete. -/
def execDrainedCommitApply (s : State) : Host.Outcome State Fault Refusal := .next s.beginRace.takeApply

/-- COMMIT_ABANDONED (R150); nothing happens while the drain tick count is below the captured limit. -/
def execCommitAbandoned (s : State) : Host.Outcome State Fault Refusal := .next s.beginDue.takeAbandon

/-- The normal end of a restart whose drain is complete (R157). When a timeout of the limit's own tick has completed it, the
forced end of that tick is due and is the end (R136, log entry 4). -/
def State.takeNormalEnd (s : State) : State :=
  if decide (s.restart ≠ .idle) && s.drained && !s.forcedEndDue then s.restartEnd else s

/-- RESTART_NORMAL_END (R157); nothing happens while no restart's drain is complete. -/
def execRestartNormalEnd (s : State) : Host.Outcome State Fault Refusal := .next s.beginRace.takeNormalEnd

/-- RESTART_FORCED_END (R157, R115, R136); nothing happens while the drain tick count is below the limit, nor when the
drain was complete at the tick that reached it (R114, R158). -/
def execRestartForcedEnd (s : State) : Host.Outcome State Fault Refusal := .next s.beginDue.takeForcedEnd

/-- A full reset: every block at its full-reset values and nothing answered for the live transactions; the queue of
commands is not the part's (R44, R63, R116, R137, R188). A transfer in progress on the M-link is ignored from here to its
end, and what was shifted out before stands on the port (R188). What a tick before it has brought about was answered. The
count of open choices is the model's and no part's, and goes on, so that an order left open by R162, R115 or R136 stays free
after a reset (log entry 2). -/
def State.fullReset (s : State) : State :=
  { State.reset with
    pending := s.pending, out := s.begin.out, openChoices := s.begin.openChoices
    link := { State.reset.link with select := s.link.select.afterReset } }.shiftOut s.link.shiftedSoFar

/-- RESET (R44, R188). -/
def execReset (s : State) : Host.Outcome State Fault Refusal := .next s.fullReset

end Sys2Proof.Machine
end

