-- ==== Sys2Proof/Machine/Link.lean ====
section
/-! DEFINITION. The twenty commands of the management link, ANSWER_READ, and the refused command frame (chapter 10).
Each action is decided in the order of R177. -/

namespace Sys2Proof.Machine

/-! ## Identity and status (R180) -/

/-- GET_IDENTITY: DONE in every state, nothing changes. -/
def actGetIdentity (s : State) : CommandResult := answered s identityBytes

/-- The number of slots that satisfy a test (R138). -/
def State.slotCount (s : State) (p : Slot → Bool) : Nat := (s.slotsWhere p).length

/-- The 20 result bytes of READ_STATUS (R180, R192). -/
def State.statusBytes (s : State) : List Byte :=
  [s.active.global.mode.byte, s.commit.state.byte, s.commit.outcome.byte] ++
    beBytes 2 s.commit.outcomeWindow.toNat ++ [s.restart.byte] ++ beBytes 2 s.timer.windowNumber.toNat ++
    beBytes 2 s.timer.counter ++ beBytes 1 s.hold.length ++ beBytes 1 s.issueQueue.length ++
    beBytes 1 (s.slotCount Slot.isFree) ++ beBytes 1 (s.slotCount Slot.isIssued) ++
    beBytes 1 (s.slotCount Slot.isDoneWaiting) ++ beBytes 1 (s.slotCount Slot.isAbandoned) ++
    [s.pendingCauses.byte, s.mask.byte] ++ beBytes 1 s.log.records.length ++ beBytes 1 s.log.lost

/-- READ_STATUS: DONE in every state, nothing changes. -/
def actReadStatus (s : State) : CommandResult := answered s s.statusBytes

/-! ## The configuration (R142, R143, R181, R182) -/

/-- The copy a selector names. -/
def State.copy (s : State) : Copy → Configuration
  | .staged => s.staged
  | .active => s.active

/-- READ_GLOBAL (R181). -/
def actReadGlobal (copy : Byte) (s : State) : CommandResult :=
  match copyOfByte copy with
  | none => refusedWith s .badValue
  | some c => answered s (s.copy c).global.bytes

/-- A commit is ARMED or DRAINING, so the staged copy is frozen (R142). -/
def State.frozen (s : State) : Bool := decide (s.commit.state ≠ .idle)

/-- WRITE_GLOBAL (R142, R182); a block of another length does not fit its command (R174 step 4). -/
def actWriteGlobal (block : List Byte) (s : State) : CommandResult :=
  if block.length ≠ 13 then refusedWith s .frameError
  else if s.frozen then refusedWith s .frozen
  else
    match globalOfBytes block with
    | none => refusedWith s .badValue
    | some g => acted { s with staged := { s.staged with global := g } }

/-- The results of READ_REQUESTER: the entry, and with the active copy the dynamic state (R181). -/
def State.requesterBytes (s : State) (r : RequesterId) (c : Copy) : List Byte :=
  ((s.copy c).requesters[r]).bytes ++
    match c with
    | .staged => []
    | .active => dynamicBytes (s.account r) (s.restraint r) (s.heldCount r)

/-- READ_REQUESTER (R181). -/
def actReadRequester (index copy : Byte) (s : State) : CommandResult :=
  match requesterOfByte index with
  | none => refusedWith s .badIndex
  | some r =>
    match copyOfByte copy with
    | none => refusedWith s .badValue
    | some c => answered s (s.requesterBytes r c)

/-- WRITE_REQUESTER (R142, R182). -/
def actWriteRequester (index : Byte) (block : List Byte) (s : State) : CommandResult :=
  if block.length ≠ 10 then refusedWith s .frameError
  else
    match requesterOfByte index with
    | none => refusedWith s .badIndex
    | some r =>
      if s.frozen then refusedWith s .frozen
      else
        match requesterEntryOfBytes block with
        | none => refusedWith s .badValue
        | some e => acted { s with staged := { s.staged with requesters := Table.put s.staged.requesters r e } }

/-- READ_RANGE (R181). -/
def actReadRange (index copy : Byte) (s : State) : CommandResult :=
  match rangeOfByte index with
  | none => refusedWith s .badIndex
  | some n =>
    match copyOfByte copy with
    | none => refusedWith s .badValue
    | some c => answered s ((s.copy c).ranges[n]).bytes

/-- WRITE_RANGE (R68, R142, R182). -/
def actWriteRange (index : Byte) (block : List Byte) (s : State) : CommandResult :=
  if block.length ≠ 14 then refusedWith s .frameError
  else
    match rangeOfByte index with
    | none => refusedWith s .badIndex
    | some n =>
      if s.frozen then refusedWith s .frozen
      else
        match rangeEntryOfBytes block with
        | none => refusedWith s .badValue
        | some e => acted { s with staged := { s.staged with ranges := Table.put s.staged.ranges n e } }

/-- COPY_ACTIVE_TO_STAGED (R143). -/
def actCopyActiveToStaged (s : State) : CommandResult :=
  if s.frozen then refusedWith s .frozen else acted { s with staged := s.active }

/-! ## Long operations (R145, R152, R155, R183, R184) -/

/-- COMMIT: BUSY, then BAD_VALUE, then the validation of the staged copy, then ARMED (R145). -/
def actCommit (mode : Byte) (s : State) : CommandResult :=
  if s.frozen || decide (s.restart ≠ .idle) then refusedWith s .busy
  else
    match commitModeOfByte mode with
    | none => refusedWith s .badValue
    | some m =>
      match s.staged.firstBadItem with
      | some item => { status := .badConfig, results := item.bytes, state := s }
      | none =>
        { status := .accepted, results := [], state := { s with commit := { s.commit with state := .armed m } } }

/-- A commit that is ARMED or DRAINING ends with an outcome other than APPLIED: IDLE, the pause cleared, the staged
copy unfrozen, the outcome with the current window number (R152, R154). -/
def State.dropCommit (s : State) (o : CommitOutcome) : State :=
  if s.frozen then
    { s with commit := { state := .idle, pause := false, outcome := o, outcomeWindow := s.timer.windowNumber } }
  else s

/-- CANCEL_COMMIT (R152). -/
def actCancelCommit (s : State) : CommandResult := acted (s.dropCommit .cancelled)

/-- The start of a restart: a pending commit is cancelled, the state goes to DRAINING with count 0 and the active
drain limit, and every held entry is flushed with RETRY (R155, R62, R154). -/
def State.startRestart (s : State) : State :=
  { s.dropCommit .cancelledByRestart with restart := .draining 0 s.active.global.drainLimit }.flush
    (fun _ => true) .retry

/-- RESTART: when the drain is already complete at the start, the restart ends normally in the same event (R155). -/
def actRestart (s : State) : CommandResult :=
  if s.restart ≠ .idle then refusedWith s .busy
  else { status := .accepted, results := [], state := s.startRestart.takeNormalEnd }

/-- RECOVER_DOWNSTREAM: every ABANDONED slot goes FREE; the answer carries how many (R133, R184). -/
def actRecoverDownstream (s : State) : CommandResult :=
  answered (s.freeSlots fun i => (s.slot i).isAbandoned) (beBytes 1 (s.slotCount Slot.isAbandoned))

/-! ## Restraint commands (R86, R92, R185) -/

/-- ISOLATE (R86). -/
def actIsolate (requester : Byte) (s : State) : CommandResult :=
  match requesterOfByte requester with
  | none => refusedWith s .badIndex
  | some r =>
    if (s.entry r).present then acted ((s.isolate r).record (.managedIsolate r)) else refusedWith s .notPresent

/-- RELEASE (R92). -/
def actRelease (requester : Byte) (s : State) : CommandResult :=
  match requesterOfByte requester with
  | none => refusedWith s .badIndex
  | some r =>
    if (s.entry r).present then
      if (s.restraint r).standing = .free then acted s else acted (s.setRestraint r Restraint.clean)
    else refusedWith s .notPresent

/-! ## Read-outs (R186) -/

/-- READ_HOLD: the number of the requester's held entries, then their records in list order. -/
def actReadHold (requester : Byte) (s : State) : CommandResult :=
  match requesterOfByte requester with
  | none => refusedWith s .badIndex
  | some r =>
    answered s (beBytes 1 (s.heldCount r) ++
      ((s.hold.filter fun e => decide (e.txn.requester = r)).flatMap HeldEntry.bytes))

/-- READ_SLOTS: the 16 slot records in slot order. -/
def actReadSlots (s : State) : CommandResult :=
  answered s ((List.finRange 16).flatMap fun i => (s.slot i).bytes)

/-! ## The log and the alerts (R164, R167, R169, R187) -/

/-- READ_LOG: the oldest records up to the count leave the log, and the lost count becomes 0 (R164, R193). -/
def actReadLog (count : Byte) (s : State) : CommandResult :=
  if 1 ≤ count.toNat ∧ count.toNat ≤ 4 then
    let taken := s.log.records.take count.toNat
    let left := s.log.records.drop count.toNat
    { status := .done
      results := beBytes 1 taken.length ++ taken.flatMap IncidentRecord.bytes ++ beBytes 1 left.length ++
        beBytes 1 s.log.lost
      state := { s with log := { s.log with records := left, lost := 0 } } }
  else refusedWith s .badValue

/-- SET_ALERT_MASK (R167). -/
def actSetAlertMask (set : Byte) (s : State) : CommandResult :=
  match alertSetOfByte set with
  | none => refusedWith s .badValue
  | some a => acted { s with mask := a }

/-- ACK_ALERT: the answer carries the causes pending afterwards (R169). -/
def actAckAlert (set : Byte) (s : State) : CommandResult :=
  match alertSetOfByte set with
  | none => refusedWith s .badValue
  | some a =>
    let s := { s with latched := s.latched.acknowledge a }
    answered s [s.pendingCauses.byte]

/-! ## The commands as transfers -/

/-- A COMMAND transfer with `p` parameter bytes: the marker, the three header fields, the parameters, the CRC. -/
def State.run (s : State) (seq code : Byte) (p : Nat) (act : State → CommandResult) : State :=
  s.command seq code (6 + p) act

def State.getIdentity (seq : Byte) (s : State) : State := s.run seq codeGetIdentity 0 actGetIdentity
def State.readStatus (seq : Byte) (s : State) : State := s.run seq codeReadStatus 0 actReadStatus
def State.readGlobal (seq copy : Byte) (s : State) : State := s.run seq codeReadGlobal 1 (actReadGlobal copy)
def State.writeGlobal (seq : Byte) (block : List Byte) (s : State) : State :=
  s.run seq codeWriteGlobal block.length (actWriteGlobal block)
def State.readRequester (seq index copy : Byte) (s : State) : State :=
  s.run seq codeReadRequester 2 (actReadRequester index copy)
def State.writeRequester (seq index : Byte) (block : List Byte) (s : State) : State :=
  s.run seq codeWriteRequester (1 + block.length) (actWriteRequester index block)
def State.readRange (seq index copy : Byte) (s : State) : State :=
  s.run seq codeReadRange 2 (actReadRange index copy)
def State.writeRange (seq index : Byte) (block : List Byte) (s : State) : State :=
  s.run seq codeWriteRange (1 + block.length) (actWriteRange index block)
def State.copyActiveToStaged (seq : Byte) (s : State) : State :=
  s.run seq codeCopyActiveToStaged 0 actCopyActiveToStaged
def State.commitCommand (seq mode : Byte) (s : State) : State := s.run seq codeCommit 1 (actCommit mode)
def State.cancelCommit (seq : Byte) (s : State) : State := s.run seq codeCancelCommit 0 actCancelCommit
def State.restartCommand (seq : Byte) (s : State) : State := s.run seq codeRestart 0 actRestart
def State.recoverDownstream (seq : Byte) (s : State) : State :=
  s.run seq codeRecoverDownstream 0 actRecoverDownstream
def State.isolateCommand (seq requester : Byte) (s : State) : State :=
  s.run seq codeIsolate 1 (actIsolate requester)
def State.releaseCommand (seq requester : Byte) (s : State) : State :=
  s.run seq codeRelease 1 (actRelease requester)
def State.readHold (seq requester : Byte) (s : State) : State := s.run seq codeReadHold 1 (actReadHold requester)
def State.readSlots (seq : Byte) (s : State) : State := s.run seq codeReadSlots 0 actReadSlots
def State.readLog (seq count : Byte) (s : State) : State := s.run seq codeReadLog 1 (actReadLog count)
def State.setAlertMask (seq set : Byte) (s : State) : State := s.run seq codeSetAlertMask 1 (actSetAlertMask set)
def State.ackAlert (seq set : Byte) (s : State) : State := s.run seq codeAckAlert 1 (actAckAlert set)

/-- The command a checked frame carries, executed (R174). The rows no frame carries do not arise. -/
def State.runDecoded (s : State) : Instr → State
  | .getIdentity seq => s.getIdentity seq
  | .readStatus seq => s.readStatus seq
  | .readGlobal seq copy => s.readGlobal seq copy
  | .writeGlobal seq block => s.writeGlobal seq block
  | .readRequester seq index copy => s.readRequester seq index copy
  | .writeRequester seq index block => s.writeRequester seq index block
  | .readRange seq index copy => s.readRange seq index copy
  | .writeRange seq index block => s.writeRange seq index block
  | .copyActiveToStaged seq => s.copyActiveToStaged seq
  | .commit seq mode => s.commitCommand seq mode
  | .cancelCommit seq => s.cancelCommit seq
  | .restart seq => s.restartCommand seq
  | .recoverDownstream seq => s.recoverDownstream seq
  | .isolate seq requester => s.isolateCommand seq requester
  | .release seq requester => s.releaseCommand seq requester
  | .readHold seq requester => s.readHold seq requester
  | .readSlots seq => s.readSlots seq
  | .readLog seq count => s.readLog seq count
  | .setAlertMask seq set => s.setAlertMask seq set
  | .ackAlert seq set => s.ackAlert seq set
  | .tick => s
  | .windowEndByExpiry => s
  | .sync => s
  | .holdExpiry => s
  | .drainedCommitApply => s
  | .commitAbandoned => s
  | .transactionTaken _ => s
  | .heldEntryRelease => s
  | .issue => s
  | .completion _ _ _ => s
  | .completionTimeout => s
  | .restartNormalEnd => s
  | .restartForcedEnd => s
  | .reset => s
  | .answerRead _ => s
  | .commandFrameRefused _ => s

/-- A refused frame changes the answer store alone; its answer echoes the sequence number and the command code as
received, a byte the frame did not reach as 0 (R174). They become the last sequence number and command code too: R172 says 'as
received' and does not say what they become when the frame did not reach their bytes; the model takes the 0 of the echo
(DESIGN CHOICE, log entry 17). -/
def State.refuseFrame (s : State) (frame : List Byte) (st : Status) : State :=
  s.command (frame.getD 0 0) (frame.getD 1 0) (1 + frame.length) fun s => refusedWith s st

/-- The bytes after a COMMAND marker, checked and executed or refused (R174). -/
def State.takeFrame (s : State) (frame : List Byte) : State :=
  match checkFrame frame with
  | .command c => s.runDecoded c
  | .frameError => s.refuseFrame frame .frameError
  | .unknownCommand => s.refuseFrame frame .unknownCommand

/-- One select period with the whole bytes the host shifted in (R171). A first byte that is neither marker, or no
whole byte, makes the transfer ignored: fill bytes are shifted out and nothing else happens. -/
def State.transfer (s : State) : List Byte → State
  | [] => s.begin.ignoreTransfer 0
  | marker :: rest =>
    if marker = Config.commandMarker then s.takeFrame rest
    else if marker = Config.answerReadMarker then s.begin.answerRead rest.length
    else s.begin.ignoreTransfer (1 + rest.length)

/-! ## The meanings -/

/-- ANSWER_READ (R173). -/
def execAnswerRead (clocked : Nat) (s : State) : Host.Outcome State Fault Refusal := .next (s.begin.answerRead clocked)

/-- GET_IDENTITY (R180). -/
def execGetIdentity (seq : Byte) (s : State) : Host.Outcome State Fault Refusal := .next (s.getIdentity seq)

/-- READ_STATUS (R180). -/
def execReadStatus (seq : Byte) (s : State) : Host.Outcome State Fault Refusal := .next (s.readStatus seq)

/-- READ_GLOBAL (R181). -/
def execReadGlobal (seq copy : Byte) (s : State) : Host.Outcome State Fault Refusal := .next (s.readGlobal seq copy)

/-- WRITE_GLOBAL (R142, R182). -/
def execWriteGlobal (seq : Byte) (block : List Byte) (s : State) : Host.Outcome State Fault Refusal :=
  .next (s.writeGlobal seq block)

/-- READ_REQUESTER (R181). -/
def execReadRequester (seq index copy : Byte) (s : State) : Host.Outcome State Fault Refusal :=
  .next (s.readRequester seq index copy)

/-- WRITE_REQUESTER (R142, R182). -/
def execWriteRequester (seq index : Byte) (block : List Byte) (s : State) : Host.Outcome State Fault Refusal :=
  .next (s.writeRequester seq index block)

/-- READ_RANGE (R181). -/
def execReadRange (seq index copy : Byte) (s : State) : Host.Outcome State Fault Refusal :=
  .next (s.readRange seq index copy)

/-- WRITE_RANGE (R142, R182). -/
def execWriteRange (seq index : Byte) (block : List Byte) (s : State) : Host.Outcome State Fault Refusal :=
  .next (s.writeRange seq index block)

/-- COPY_ACTIVE_TO_STAGED (R143). -/
def execCopyActiveToStaged (seq : Byte) (s : State) : Host.Outcome State Fault Refusal :=
  .next (s.copyActiveToStaged seq)

/-- COMMIT (R145, R183). -/
def execCommit (seq mode : Byte) (s : State) : Host.Outcome State Fault Refusal := .next (s.commitCommand seq mode)

/-- CANCEL_COMMIT (R152, R183). -/
def execCancelCommit (seq : Byte) (s : State) : Host.Outcome State Fault Refusal := .next (s.cancelCommit seq)

/-- RESTART (R155, R184). -/
def execRestart (seq : Byte) (s : State) : Host.Outcome State Fault Refusal := .next (s.restartCommand seq)

/-- RECOVER_DOWNSTREAM (R133, R184). -/
def execRecoverDownstream (seq : Byte) (s : State) : Host.Outcome State Fault Refusal :=
  .next (s.recoverDownstream seq)

/-- ISOLATE (R86, R185). -/
def execIsolate (seq requester : Byte) (s : State) : Host.Outcome State Fault Refusal :=
  .next (s.isolateCommand seq requester)

/-- RELEASE (R92, R185). -/
def execRelease (seq requester : Byte) (s : State) : Host.Outcome State Fault Refusal :=
  .next (s.releaseCommand seq requester)

/-- READ_HOLD (R186). -/
def execReadHold (seq requester : Byte) (s : State) : Host.Outcome State Fault Refusal :=
  .next (s.readHold seq requester)

/-- READ_SLOTS (R186). -/
def execReadSlots (seq : Byte) (s : State) : Host.Outcome State Fault Refusal := .next (s.readSlots seq)

/-- READ_LOG (R164, R187). -/
def execReadLog (seq count : Byte) (s : State) : Host.Outcome State Fault Refusal := .next (s.readLog seq count)

/-- SET_ALERT_MASK (R167, R187). -/
def execSetAlertMask (seq set : Byte) (s : State) : Host.Outcome State Fault Refusal := .next (s.setAlertMask seq set)

/-- ACK_ALERT (R169, R187). -/
def execAckAlert (seq set : Byte) (s : State) : Host.Outcome State Fault Refusal := .next (s.ackAlert seq set)

/-- COMMAND_FRAME_REFUSED (R171, R174): the transfer, byte by byte. -/
def execCommandFrameRefused (transfer : List Byte) (s : State) : Host.Outcome State Fault Refusal :=
  .next (s.transfer transfer)

end Sys2Proof.Machine
end

