-- ==== Sys2Proof/Machine/Outstanding.lean ====
section
/-! DEFINITION. Completions and completion timeouts (chapter 7). -/

namespace Sys2Proof.Machine

/-- MEMORY_ERROR for an ERROR completion of an ISSUED slot (R125). -/
def State.recordError (s : State) (i : SlotId) (r : SlotRecord) (o : CompletionOutcome) : State :=
  match o with
  | .ok => s
  | .error => s.record (.memoryError r.requester r.tag i r.address)

/-- A completion, by the state of the slot it names (R120). -/
def State.complete (s : State) (i : SlotId) (o : CompletionOutcome) (data : List Beat) : State :=
  match s.slot i with
  | .issued r => (s.recordError i r o).endPiece i (r.completed o data)
  | .abandoned _ => (s.record (.lateCompletion i)).freeSlot i
  | .free => s.record (.strayCompletion i)
  | .doneWaiting _ => s.record (.strayCompletion i)

/-- COMPLETION (R120 to R126, R130, R131). -/
def execCompletion (slot : SlotId) (outcome : CompletionOutcome) (data : List Beat) (s : State) :
    Host.Outcome State Fault Refusal :=
  .next (s.begin.complete slot outcome data)

/-- COMPLETION_TIMEOUT (R128): the comparison that a tick has brought about; else nothing happens. -/
def execCompletionTimeout (s : State) : Host.Outcome State Fault Refusal := .next s.beginDue.takeTimeouts

end Sys2Proof.Machine
end

