-- ==== Sys2Proof/Machine/Time.lean ====
section
/-! DEFINITION. The time path: TICK, the window end by expiry, SYNC, the expiry of held entries (chapters 1 and 3). -/

namespace Sys2Proof.Machine

/-- One more tick of a drain (R149, R156). -/
def drainTick (ticks : Nat) : Nat := min (ticks + 1) 65535

def CommitState.ticked : CommitState → CommitState
  | .idle => .idle
  | .armed m => .armed m
  | .draining ticks limit => .draining (drainTick ticks) limit

def RestartState.ticked : RestartState → RestartState
  | .idle => .idle
  | .draining ticks limit => .draining (drainTick ticks) limit

/-- This tick brings a restart's forced end about: the count has reached the limit and the drain is not complete (R157,
R158). -/
def State.tickForcesEnd (s : State) : Bool :=
  match s.restart.ticked with
  | .draining ticks limit => decide (limit ≤ ticks) && !s.drained
  | .idle => false

/-- A tick arrival is counted: by the window timer (R2), in every ISSUED slot (R127), and by a running drain of a
commit (R149) or of a restart (R156). -/
def State.countTick (s : State) : State :=
  { s with
    timer := { s.timer with counter := s.timer.counter + 1, elapsed := s.timer.elapsed + 1 }
    slots := Table.remap s.slots fun _ x => x.ticked
    commit := { s.commit with state := s.commit.state.ticked }
    restart := s.restart.ticked
    timeoutCheck := some s.active.global.completionLimit
    forcedEnd := s.tickForcesEnd }

/-- TICK (R2, R127, R149, R156): the arrival is counted. What it brings about is then due: the window end by expiry,
the timeouts, the abandonment, the forced end, in whichever order their steps are taken (R150, R158, R161). -/
def execTick (s : State) : Host.Outcome State Fault Refusal := .next s.begin.countTick

/-- WINDOW_END_BY_EXPIRY (R2): taken when the counter has reached the active period; else nothing happens. -/
def execWindowEndByExpiry (s : State) : Host.Outcome State Fault Refusal := .next s.beginDue.takeWindowEnd

/-- A SYNC arrival by the three cases of R3. -/
def State.syncArrival (s : State) : State :=
  if s.active.global.syncEnable then
    if s.active.global.syncGuard ≤ s.timer.elapsed then s.windowEnd .sync else s.record .syncEarly
  else s

/-- SYNC (R3). -/
def execSync (s : State) : Host.Outcome State Fault Refusal := .next s.begin.syncArrival

/-- HOLD_EXPIRY (R50): every held entry whose age is at or above a limit that is not 0 expires. One that was held between
the window end and this step has age 0 and stays (R41). -/
def execHoldExpiry (s : State) : Host.Outcome State Fault Refusal := .next s.clearOut.expireHold

end Sys2Proof.Machine
end

