-- ==== Sys2Proof/Machine/Traffic.lean ====
section
/-! DEFINITION. The transaction path: admission (chapter 2), the range check (chapter 4), release (chapter 3), and
issue with segment splitting (chapter 6). -/

namespace Sys2Proof.Machine

/-! ## Well-formedness and live transactions -/

/-- One past the last byte of the byte range (00_scope.md section 6). -/
def byteEnd (t : Transaction) : Nat := t.address.toNat + Config.beatBytes * t.length.val

/-- A malformed transaction (R25). -/
def malformed (t : Transaction) : Bool :=
  decide (t.address.toNat % Config.beatBytes ≠ 0) || decide (t.length.val = 0) ||
    decide (Config.maxBeats < t.length.val) || decide (Config.addressEnd < byteEnd t)

/-- A transaction carries this requester and tag. -/
def carries (t : Transaction) (r : RequesterId) (g : Tag) : Bool :=
  decide (t.requester = r) && decide (t.tag = g)

/-- A slot holds a live piece of this requester and tag (R26). -/
def Slot.named (x : Slot) (r : RequesterId) (g : Tag) : Bool :=
  match x.liveRecord with
  | some q => decide (q.requester = r) && decide (q.tag = g)
  | none => false

/-- The requester and tag are those of a live transaction: held, in the issue queue, or in the outstanding table with
a slot ISSUED or DONE_WAITING (R26, R118, R133). -/
def State.live (s : State) (r : RequesterId) (g : Tag) : Bool :=
  s.hold.any (fun e => carries e.txn r g) || s.issueQueue.any (fun t => carries t r g) ||
    (List.finRange 16).any fun i => (s.slot i).named r g

/-! ## The range check (chapter 4) -/

/-- The entry's kinds take in the transaction's kind (R70). -/
def RangeKinds.covers (k : RangeKinds) (t : Kind) : Bool :=
  match k with
  | .both => true
  | .read => decide (t = .read)
  | .write => decide (t = .write)

/-- A range entry matches a transaction of a requester of class `cls`: valid, kind, class, overlap (R70). -/
def RangeEntry.hits (e : RangeEntry) (cls : Nat) (t : Transaction) : Bool :=
  e.valid && e.kinds.covers t.kind && hasClass e.classes cls &&
    decide (t.address.toNat ≤ e.limit.toNat) && decide (e.base.toNat < byteEnd t)

/-- The deciding entry: the lowest-numbered entry that matches (R71). -/
def State.decidingEntry (s : State) (t : Transaction) : Option RangeId :=
  (List.finRange 16).find? fun n => (s.active.ranges[n]).hits (s.entry t.requester).cls t

/-- The range check's result: the deciding entry's action and index, or PASS with no index (R71). -/
def State.rangeCheck (s : State) (t : Transaction) : RangeAction × Option RangeId :=
  match s.decidingEntry t with
  | some n => ((s.active.ranges[n]).action, some n)
  | none => (.pass, none)

/-! ## Admission (chapter 2) -/

/-- The outcome of the admission decision, with the reason the manual names for it (R24). -/
inductive Admission where
  /-- Step 1: DENIED, MALFORMED. -/
  | malformed
  /-- Step 2: DENIED, DUPLICATE_TAG. -/
  | duplicateTag
  /-- Step 3: RETRY, a regulation restart is draining. -/
  | restarting
  /-- Step 4a: DENIED, UNKNOWN_REQUESTER. -/
  | unknownRequester
  /-- Step 4b: DENIED, the requester is ISOLATED. -/
  | isolated
  /-- Step 4c: DENIED, RANGE_DENY. -/
  | rangeDeny (n : RangeId)
  /-- Step 4c: DENIED, RANGE_CURB, curb report. -/
  | rangeCurb (n : RangeId)
  /-- Step 4c: DENIED, RANGE_ISOLATE, isolation report. -/
  | rangeIsolate (n : RangeId)
  /-- Step 4d: RETRY, the requester is CURBED. -/
  | curbed
  /-- Step 5: HOLD. -/
  | hold
  /-- Step 5: RETRY, no room in the hold queue or in the requester's share. -/
  | noRoom
  /-- Step 6: FORWARD. -/
  | forward
  deriving DecidableEq, Repr

/-- A transaction is to be held: the pause, the requester's earlier held entries, or its balance (R33). -/
def State.toBeHeld (s : State) (r : RequesterId) : Bool :=
  s.commit.pause || decide (0 < s.heldCount r) ||
    (s.regulating && (s.entry r).regulated && decide ((s.account r).balance < 1))

/-- There is room to hold: fewer than 48 entries, and the held count below the hold share (R34). -/
def State.holdRoom (s : State) (r : RequesterId) : Bool :=
  decide (s.hold.length < Config.holdCapacity) && decide (s.heldCount r < (s.entry r).holdShare)

/-- Steps 5 and 6 of the decision (R33, R34, R36). -/
def State.decideHold (s : State) (t : Transaction) : Admission :=
  if s.toBeHeld t.requester then if s.holdRoom t.requester then .hold else .noRoom else .forward

/-- Steps 4c and 4d of the decision, then 5 and 6 (R31, R32). -/
def State.decideRange (s : State) (t : Transaction) : Admission :=
  match s.rangeCheck t with
  | (.deny, some n) => .rangeDeny n
  | (.curb, some n) => .rangeCurb n
  | (.isolate, some n) => .rangeIsolate n
  | (_, _) => if (s.restraint t.requester).standing = .curbed then .curbed else s.decideHold t

/-- The admission decision: the first step that yields an outcome ends it (R24). -/
def State.decideAdmission (s : State) (t : Transaction) : Admission :=
  if malformed t then .malformed
  else if s.live t.requester t.tag then .duplicateTag
  else if s.restart ≠ .idle then .restarting
  else if s.regulating then
    if !(s.entry t.requester).present then .unknownRequester
    else if (s.restraint t.requester).standing = .isolated then .isolated
    else s.decideRange t
  else s.decideHold t

/-- A curb report: CURBED with curb-hit set, the strike count unchanged (R83). -/
def State.curbReport (s : State) (r : RequesterId) : State :=
  s.setRestraint r { s.restraint r with standing := .curbed, curbHit := true }

/-- Holding: the transaction joins the end of the hold queue with age 0 (R35). -/
def State.holdTransaction (s : State) (t : Transaction) : State :=
  { s with hold := s.hold ++ [{ txn := t, age := 0 }] }

/-- Acting on the decision, all in the taking event (R31, R35 to R39). No rule orders the DENIED of a transaction decided
ISOLATE and those of the entries its isolation flushes (R22, R31, R76): the model lists the transaction's own first
(DESIGN CHOICE, log entry 8). -/
def State.actOnDecision (s : State) (t : Transaction) : State :=
  match s.decideAdmission t with
  | .malformed => (s.refuse t .denied).record (.malformed t.requester t.tag t.address)
  | .duplicateTag => (s.refuse t .denied).record (.duplicateTag t.requester t.tag)
  | .restarting => s.refuse t .retry
  | .unknownRequester => (s.refuse t .denied).record (.unknownRequester t.requester t.tag)
  | .isolated => s.refuse t .denied
  | .rangeDeny n => (s.refuse t .denied).record (.rangeDeny t.requester t.tag t.address n)
  | .rangeCurb n =>
    ((s.refuse t .denied).record (.rangeCurb t.requester t.tag t.address n)).curbReport t.requester
  | .rangeIsolate n =>
    ((s.refuse t .denied).record (.rangeIsolate t.requester t.tag t.address n)).isolate t.requester
  | .curbed => s.refuse t .retry
  | .hold => s.holdTransaction t
  | .noRoom => s.refuse t .retry
  | .forward => s.join t

/-! ## Taking, and release (chapter 3) -/

/-- Of two claims, the one of the higher level; the earlier-listed when the levels are equal (R54). -/
def State.better (s : State) (best : Option HeldEntry) (e : HeldEntry) : Option HeldEntry :=
  match best with
  | none => some e
  | some b => if (s.entry b.txn.requester).level < (s.entry e.txn.requester).level then some e else some b

/-- The entry the release unit selects (R54). -/
def State.selected (s : State) : Option HeldEntry := s.claims.foldl s.better none

/-- The U-port takes a request: an entry is free, and the request is not one kept waiting without a grant (R23, R102,
R103; log entry 7). -/
def State.uPortGranted (s : State) : Bool := s.issueRoom && decide (s.uPort ≠ .waiting)

/-- A request at the U-port: taken and decided when an entry is granted, else kept waiting (R23, R24). -/
def State.takeRequest (s : State) (t : Transaction) : State :=
  if s.uPortGranted then { s with uPort := .none }.actOnDecision t else { s with uPort := .waiting }

/-- TRANSACTION_TAKEN (R21 to R42). -/
def execTransactionTaken (t : Transaction) (s : State) : Host.Outcome State Fault Refusal :=
  .next (s.beginTaking.takeRequest t)

/-- A free issue queue entry is left for the release unit: the one granted to a waiting request is not (R102). -/
def State.releaseRoom (s : State) : Bool :=
  decide (s.issueQueue.length + (if s.uPort = .granted then 1 else 0) < Config.issueCapacity)

/-- One release: the selected entry moves to the tail of the issue queue, charged and counted (R55); nothing happens
when no entry is eligible (R53). -/
def State.releaseOne (s : State) : State :=
  if s.releaseRoom then
    match s.selected with
    | some e => { s with hold := s.hold.eraseP fun x => decide (x.txn.requester = e.txn.requester) }.join e.txn
    | none => s
  else s

/-- HELD_ENTRY_RELEASE (R53 to R55). -/
def execHeldEntryRelease (s : State) : Host.Outcome State Fault Refusal := .next s.begin.releaseOne

/-! ## Pieces and issue (chapter 6) -/

/-- A piece of a transaction (R105, R106). -/
structure Piece where
  role : PieceRole
  address : Addr
  length : Nat
  data : List Beat
  deriving DecidableEq, Repr

/-- The first segment boundary above the address (R105). -/
def firstBoundary (t : Transaction) : Nat := (t.address.toNat / Config.segmentBytes + 1) * Config.segmentBytes

/-- The transaction crosses its first boundary (R105). -/
def crosses (t : Transaction) : Bool := decide (firstBoundary t < byteEnd t)

/-- The beats of the FIRST piece (R105). -/
def firstBeats (t : Transaction) : Nat := (firstBoundary t - t.address.toNat) / Config.beatBytes

/-- The one piece of a transaction that crosses no boundary (R105). -/
def wholePiece (t : Transaction) : Piece :=
  { role := .whole, address := t.address, length := t.length.val, data := t.data }

/-- The FIRST piece, with the first beats of the write data (R105, R106). -/
def firstPiece (t : Transaction) : Piece :=
  { role := .first, address := t.address, length := firstBeats t, data := t.data.take (firstBeats t) }

/-- The SECOND piece, from the boundary, with the remaining beats (R105, R106). -/
def secondPiece (t : Transaction) : Piece :=
  { role := .second, address := BitVec.ofNat 40 (firstBoundary t), length := t.length.val - firstBeats t,
    data := t.data.drop (firstBeats t) }

/-- The record a slot takes at issue (R109). -/
def issuedRecord (t : Transaction) (p : Piece) (partner : Option SlotId) : SlotRecord :=
  { requester := t.requester, tag := t.tag, kind := t.kind, address := p.address, length := p.length,
    role := p.role, partner := partner, ticks := 0, outcome := .pending, readData := none }

/-- A piece is placed in a FREE slot and sent out of the D-port (R108, R110). -/
def State.send (s : State) (t : Transaction) (p : Piece) (i : SlotId) (partner : Option SlotId) : State :=
  let s := s.setSlot i (.issued (issuedRecord t p partner))
  { s with out := { s.out with pieces := s.out.pieces ++
      [{ slot := i, kind := t.kind, address := p.address, length := p.length, data := p.data }] } }

/-- The FREE slots, in ascending order (R107). -/
def State.freeList (s : State) : List SlotId := s.slotsWhere Slot.isFree

/-- Issue of the head of the issue queue, when it is ready (R107, R108); else nothing happens. -/
def State.issueHead (s : State) : State :=
  match s.issueQueue with
  | [] => s
  | t :: rest =>
    if crosses t then
      match s.freeList with
      | i :: j :: _ =>
        ({ s with issueQueue := rest }.send t (firstPiece t) i (some j)).send t (secondPiece t) j (some i)
      | _ => s
    else
      match s.freeList with
      | i :: _ => { s with issueQueue := rest }.send t (wholePiece t) i none
      | [] => s

/-- ISSUE (R107 to R110). -/
def execIssue (s : State) : Host.Outcome State Fault Refusal := .next s.begin.issueHead

end Sys2Proof.Machine
end

