-- ==== Sys2Proof/Machine/Dispatch.lean ====
section
/-! DEFINITION. The meaning of every command, one arm per row of spec/opcode_table.json. -/

namespace Sys2Proof.Machine

def exec (i : Instr) (s : State) : Host.Outcome State Fault Refusal :=
  match i with
  | .tick => Sys2Proof.Machine.execTick s
  | .windowEndByExpiry => Sys2Proof.Machine.execWindowEndByExpiry s
  | .sync => Sys2Proof.Machine.execSync s
  | .holdExpiry => Sys2Proof.Machine.execHoldExpiry s
  | .drainedCommitApply => Sys2Proof.Machine.execDrainedCommitApply s
  | .commitAbandoned => Sys2Proof.Machine.execCommitAbandoned s
  | .transactionTaken t => Sys2Proof.Machine.execTransactionTaken t s
  | .heldEntryRelease => Sys2Proof.Machine.execHeldEntryRelease s
  | .issue => Sys2Proof.Machine.execIssue s
  | .completion slot outcome data => Sys2Proof.Machine.execCompletion slot outcome data s
  | .completionTimeout => Sys2Proof.Machine.execCompletionTimeout s
  | .restartNormalEnd => Sys2Proof.Machine.execRestartNormalEnd s
  | .restartForcedEnd => Sys2Proof.Machine.execRestartForcedEnd s
  | .reset => Sys2Proof.Machine.execReset s
  | .answerRead clocked => Sys2Proof.Machine.execAnswerRead clocked s
  | .getIdentity seq => Sys2Proof.Machine.execGetIdentity seq s
  | .readStatus seq => Sys2Proof.Machine.execReadStatus seq s
  | .readGlobal seq copy => Sys2Proof.Machine.execReadGlobal seq copy s
  | .writeGlobal seq block => Sys2Proof.Machine.execWriteGlobal seq block s
  | .readRequester seq index copy => Sys2Proof.Machine.execReadRequester seq index copy s
  | .writeRequester seq index block => Sys2Proof.Machine.execWriteRequester seq index block s
  | .readRange seq index copy => Sys2Proof.Machine.execReadRange seq index copy s
  | .writeRange seq index block => Sys2Proof.Machine.execWriteRange seq index block s
  | .copyActiveToStaged seq => Sys2Proof.Machine.execCopyActiveToStaged seq s
  | .commit seq mode => Sys2Proof.Machine.execCommit seq mode s
  | .cancelCommit seq => Sys2Proof.Machine.execCancelCommit seq s
  | .restart seq => Sys2Proof.Machine.execRestart seq s
  | .recoverDownstream seq => Sys2Proof.Machine.execRecoverDownstream seq s
  | .isolate seq requester => Sys2Proof.Machine.execIsolate seq requester s
  | .release seq requester => Sys2Proof.Machine.execRelease seq requester s
  | .readHold seq requester => Sys2Proof.Machine.execReadHold seq requester s
  | .readSlots seq => Sys2Proof.Machine.execReadSlots seq s
  | .readLog seq count => Sys2Proof.Machine.execReadLog seq count s
  | .setAlertMask seq set => Sys2Proof.Machine.execSetAlertMask seq set s
  | .ackAlert seq set => Sys2Proof.Machine.execAckAlert seq set s
  | .commandFrameRefused transfer => Sys2Proof.Machine.execCommandFrameRefused transfer s

end Sys2Proof.Machine
end

