-- ==== Sys2Proof/Safety.lean ====
section
/-! DEFINITION. The terms claims use: when nothing is due, the laws the manual states of the whole part, and what a
window end, an answered command and a finished transaction are, said apart from the code that brings them about. -/

namespace Sys2Proof.Machine

/-! ## Nothing is due -/

/-- No held entry waits for HOLD_EXPIRY: the window end before is whole (R50, R52). -/
def State.holdClosed (s : State) : Bool :=
  s.hold.all fun e => !e.overAge s.active.global.holdAgeLimit

/-- The last tick is taken at the window timer, the hold queue and the outstanding table. -/
def State.tickClosed (s : State) : Bool := s.holdClosed && !s.windowEndDue && s.timeoutCheck.isNone

/-- Nothing is due: the part stands between two events. -/
def State.settled (s : State) : Bool := s.tickClosed && !s.abandonDue && !s.forcedEndDue && !s.grantDue

/-- Nothing is due but, possibly, the expiry of held entries that belongs to the window end before: a taking at the U-port
may come before that expiry or after it (R41, R42). -/
def State.arrivalReady (s : State) : Bool :=
  !s.windowEndDue && s.timeoutCheck.isNone && !s.abandonDue && !s.forcedEndDue && !s.grantDue

/-- Nothing is due, and the M-link's select period is not one within which a full reset was taken (R188). -/
def State.linkReady (s : State) : Bool := s.settled && decide (s.link.select ≠ .ignored)

/-! ## Incidents handed over -/

/-- The log after a list of incidents handed to it one after another, all in one window: each is appended while the
log holds fewer than 32 records, else counted as lost (R161, R163). -/
def IncidentLog.handed (l : IncidentLog) (window : BitVec 16) (is : List Incident) : IncidentLog :=
  is.foldl (fun l i => if l.records.length < 32 then l.append window i else l.drop) l

/-- An incident handed to the log found it full, so LOG_LOST is latched (R163). -/
def IncidentLog.overflows (l : IncidentLog) (is : List Incident) : Bool :=
  !is.isEmpty && decide (32 < l.records.length + is.length)

/-- The answer store after a command, and the fill bytes of its transfer; the rest of the part as it stands. -/
def State.withAnswer (s : State) (seq code : Byte) (shifted : Nat) (st : Status) (results : List Byte) : State :=
  { s with
    link := { answer := some { seq := seq, code := code, status := st, results := results },
              lastSeq := seq, lastCode := code, select := .released }
    out := { s.out with shifted := List.replicate shifted 0xFF } }

/-! ## Blocks and records byte by byte (chapter 11) -/

/-- A two-byte value, most significant byte first (R189). -/
def twoBytes (n : Nat) : List Byte := [BitVec.ofNat 8 (n / 256), BitVec.ofNat 8 n]

/-- A five-byte address, most significant byte first (R189). -/
def fiveBytes (a : Addr) : List Byte :=
  [BitVec.ofNat 8 (a.toNat / 4294967296), BitVec.ofNat 8 (a.toNat / 16777216), BitVec.ofNat 8 (a.toNat / 65536),
   BitVec.ofNat 8 (a.toNat / 256), BitVec.ofNat 8 a.toNat]

/-- The 13 bytes of a global block, in the order of the table of R191. -/
def GlobalBlock.layout (g : GlobalBlock) : List Byte :=
  ([if g.mode = .regulating then 1 else 0] : List Byte) ++ twoBytes g.period ++ [if g.syncEnable then 1 else 0] ++
    twoBytes g.syncPhase ++ twoBytes g.syncGuard ++ twoBytes g.completionLimit ++ twoBytes g.drainLimit ++
    [BitVec.ofNat 8 g.holdAgeLimit]

/-- The 10 bytes of a requester block, in the order of the table of R191. -/
def RequesterEntry.layout (e : RequesterEntry) : List Byte :=
  ([if e.present then 1 else 0, if e.regulated then 1 else 0] : List Byte) ++ twoBytes e.allowance ++
    twoBytes e.carryLimit ++
    [BitVec.ofNat 8 e.level, BitVec.ofNat 8 e.cls, BitVec.ofNat 8 e.holdShare, BitVec.ofNat 8 e.escalationLimit]

/-- The 14 bytes of a range block, in the order of the table of R191; bit n of the classes byte is class n. -/
def RangeEntry.layout (e : RangeEntry) : List Byte :=
  ([if e.valid then 1 else 0] : List Byte) ++ fiveBytes e.base ++ fiveBytes e.limit ++
    [match e.kinds with
      | .read => 1
      | .write => 2
      | .both => 3,
     BitVec.ofNat 8 e.classes.toNat,
     match e.action with
      | .pass => 0
      | .deny => 1
      | .curb => 2
      | .isolate => 3]

/-- The 15 bytes of a slot record of READ_SLOTS, in the order of the table of R192: a FREE slot's are all 0x00, and an
absent partner is 0xFF. -/
def Slot.layout (x : Slot) : List Byte :=
  let record (state : Byte) (r : SlotRecord) : List Byte :=
    [state, BitVec.ofNat 8 r.requester.val, r.tag, if r.kind = .read then 1 else 2] ++ fiveBytes r.address ++
      [BitVec.ofNat 8 r.length,
       match r.role with
        | .whole => 1
        | .first => 2
        | .second => 3,
       match r.partner with
        | none => 0xFF
        | some p => BitVec.ofNat 8 p.val] ++
      twoBytes r.ticks ++
      [match r.outcome with
        | .pending => 0
        | .ok => 1
        | .error => 2
        | .timeout => 3]
  match x with
  | .free => List.replicate 15 0
  | .issued r => record 1 r
  | .doneWaiting r => record 2 r
  | .abandoned r => record 3 r

/-- The 16 bytes of an incident record of READ_LOG, in the order of the table of R193: for each of the 17 kinds its code,
its fields-present byte (bit 0 requester, 1 tag, 2 address, 3 range index, 4 slot, 5 count), and the fields it carries, the
others 0x00 (R160). -/
def IncidentRecord.layout (x : IncidentRecord) : List Byte :=
  let record (code present requester : Byte) (tag : Tag) (address : Addr) (range slot count : Byte) : List Byte :=
    twoBytes x.seq.toNat ++ [code] ++ twoBytes x.window.toNat ++ [present, requester, tag] ++ fiveBytes address ++
      [range, slot, count]
  match x.incident with
  | .malformed r g a => record 0x01 0x07 (BitVec.ofNat 8 r.val) g a 0 0 0
  | .duplicateTag r g => record 0x02 0x03 (BitVec.ofNat 8 r.val) g 0 0 0 0
  | .unknownRequester r g => record 0x03 0x03 (BitVec.ofNat 8 r.val) g 0 0 0 0
  | .rangeDeny r g a n => record 0x04 0x0F (BitVec.ofNat 8 r.val) g a (BitVec.ofNat 8 n.val) 0 0
  | .rangeCurb r g a n => record 0x05 0x0F (BitVec.ofNat 8 r.val) g a (BitVec.ofNat 8 n.val) 0 0
  | .rangeIsolate r g a n => record 0x06 0x0F (BitVec.ofNat 8 r.val) g a (BitVec.ofNat 8 n.val) 0 0
  | .escalated r => record 0x07 0x01 (BitVec.ofNat 8 r.val) 0 0 0 0 0
  | .managedIsolate r => record 0x08 0x01 (BitVec.ofNat 8 r.val) 0 0 0 0 0
  | .holdExpired r g => record 0x09 0x03 (BitVec.ofNat 8 r.val) g 0 0 0 0
  | .completionTimeout r g i => record 0x0A 0x13 (BitVec.ofNat 8 r.val) g 0 0 (BitVec.ofNat 8 i.val) 0
  | .memoryError r g i a => record 0x0B 0x17 (BitVec.ofNat 8 r.val) g a 0 (BitVec.ofNat 8 i.val) 0
  | .lateCompletion i => record 0x0C 0x10 0 0 0 0 (BitVec.ofNat 8 i.val) 0
  | .strayCompletion i => record 0x0D 0x10 0 0 0 0 (BitVec.ofNat 8 i.val) 0
  | .commitApplied => record 0x0E 0x00 0 0 0 0 0 0
  | .commitAbandoned => record 0x0F 0x00 0 0 0 0 0 0
  | .syncEarly => record 0x10 0x00 0 0 0 0 0 0
  | .restartForced n => record 0x11 0x20 0 0 0 0 0 (BitVec.ofNat 8 n)

/-! ## The laws of the configuration -/

/-- Every field of a configuration is in its range (R67, R140, R141). -/
def Configuration.inRange (c : Configuration) : Prop :=
  c.global.inRange = true ∧ (∀ r : RequesterId, (c.requesters[r]).inRange = true) ∧
    ∀ n : RangeId, (c.ranges[n]).inRange = true

/-- A configuration passes every check of COMMIT (R145). -/
def Configuration.commitOk (c : Configuration) : Prop :=
  c.global.commitOk = true ∧ (∀ r : RequesterId, (c.requesters[r]).commitOk = true) ∧
    ∀ n : RangeId, (c.ranges[n]).commitOk = true

/-- Both copies are in range, the active copy satisfies every check of COMMIT, and so does the staged copy while a
commit is ARMED or DRAINING (R68, R142, R145). -/
def ConfigLaw (s : State) : Prop :=
  s.staged.inRange ∧ s.active.inRange ∧ s.active.commitOk ∧ (s.commit.state ≠ .idle → s.staged.commitOk)

/-! ## The laws of the time path and the accounts -/

/-- The timer's law of a state between any two steps: the elapsed count is never above the counter (R1), and the counter
is at most the period. R1 has it below the period; it stands at the period between a tick that reaches the period and its
window end, which are two steps here (log entry 4). -/
def TimerLaw (s : State) : Prop :=
  s.timer.elapsed ≤ s.timer.counter ∧ s.timer.counter ≤ s.active.global.period

/-- The balance law (R10). -/
def BalanceLaw (s : State) : Prop :=
  ∀ r : RequesterId,
    if (s.entry r).accounted then
      -15 ≤ (s.account r).balance ∧
        (s.account r).balance ≤ ((s.entry r).allowance : Int) + ((s.entry r).carryLimit : Int)
    else (s.account r).balance = 0

/-- In REGULATING mode what a requester has spent in this window and what it may still spend stay within its allowance
plus its carry limit (R20). -/
def SpendLaw (s : State) : Prop :=
  s.regulating = true → ∀ r : RequesterId, (s.entry r).accounted = true →
    (s.account r).balance + ((s.account r).beatsThis : Int) ≤
      ((s.entry r).allowance : Int) + ((s.entry r).carryLimit : Int)

/-- Every transaction in the hold queue and in the issue queue is well formed (R46, R100). -/
def QueuedWellFormed (s : State) : Prop :=
  (∀ e ∈ s.hold, malformed e.txn = false) ∧ ∀ t ∈ s.issueQueue, malformed t = false

/-! ## The laws of the queues and the log -/

/-- The capacities: 48 held entries, 8 queued transactions, 32 records (R45, R100, R159). -/
def CapacityLaw (s : State) : Prop :=
  s.hold.length ≤ 48 ∧ s.issueQueue.length ≤ 8 ∧ s.log.records.length ≤ 32

/-- The sequence numbers of the records are consecutive modulo 65536 in log order, and the next sequence number
follows the last (R161). -/
def LogLaw (s : State) : Prop :=
  ∀ k : Nat, k < s.log.records.length →
    (s.log.records[k]?).map IncidentRecord.seq =
      some (s.log.nextSeq - BitVec.ofNat 16 (s.log.records.length - k))

/-- In REGULATING mode the hold queue holds no entry of an ISOLATED or an absent requester (R60). -/
def HeldStandingLaw (s : State) : Prop :=
  s.regulating = true → ∀ e ∈ s.hold,
    (s.entry e.txn.requester).present = true ∧ (s.restraint e.txn.requester).standing ≠ .isolated

/-- An absent requester's record is clean (R95), and in REGULATING mode a requester that is not ISOLATED and has a
non-zero escalation limit has a strike count below that limit (R89). -/
def StrikeLaw (s : State) : Prop :=
  (∀ r : RequesterId, (s.entry r).present = false → s.restraint r = Restraint.clean) ∧
    (s.regulating = true → ∀ r : RequesterId, (s.restraint r).standing ≠ .isolated →
      (s.entry r).escalationLimit ≠ 0 → (s.restraint r).strikes < (s.entry r).escalationLimit)

/-- The pause is set exactly while a commit is DRAINING (R148); while a restart is DRAINING no commit is pending and
nothing is held (R45, R145, R154); a forced end is to be taken only while a restart is DRAINING at its limit (R157). -/
def DrainLaw (s : State) : Prop :=
  (s.commit.pause = s.commit.state.isDraining) ∧
    (s.restart ≠ .idle → s.commit.state = .idle ∧ s.hold = []) ∧
    (s.forcedEnd = true → ∃ ticks limit : Nat, s.restart = .draining ticks limit ∧ limit ≤ ticks)

/-! ## The laws of the outstanding table -/

/-- The record of a slot that is not FREE. -/
def Slot.record? : Slot → Option SlotRecord
  | .free => none
  | .issued r => some r
  | .doneWaiting r => some r
  | .abandoned r => some r

/-- The two records of a split transaction name each other and agree (R105, R109). -/
def partners (i : SlotId) (r : SlotRecord) (q : SlotRecord) : Prop :=
  q.partner = some i ∧ q.requester = r.requester ∧ q.tag = r.tag ∧ q.kind = r.kind ∧
    ((r.role = .first ∧ q.role = .second) ∨ (r.role = .second ∧ q.role = .first))

/-- The law of the outstanding table (R119, R121, R126): a record that names a partner is named by it and agrees with
it, a WHOLE piece names none, and a slot is DONE_WAITING only while its partner is ISSUED. -/
def PairLaw (s : State) : Prop :=
  ∀ i : SlotId, ∀ r : SlotRecord, (s.slot i).record? = some r →
    (r.role = .whole → r.partner = none) ∧
    (∀ p : SlotId, r.partner = some p → ∃ q : SlotRecord, (s.slot p).record? = some q ∧ partners i r q) ∧
    (s.slot i = .doneWaiting r → ∃ p : SlotId, ∃ q : SlotRecord, r.partner = some p ∧ s.slot p = .issued q)

/-- A slot that stands for its live transaction: ISSUED or DONE_WAITING, and not the SECOND piece beside a partner that
is live too. Each live transaction of the outstanding table has exactly one (R119). -/
def State.leads (s : State) (i : SlotId) : Bool :=
  match (s.slot i).liveRecord with
  | none => false
  | some r =>
    match r.role with
    | .whole => true
    | .first => true
    | .second =>
      match r.partner with
      | none => true
      | some p => (s.slot p).liveRecord.isNone

/-- How many live transactions carry this requester and tag (R26). -/
def State.liveCount (s : State) (r : RequesterId) (g : Tag) : Nat :=
  s.hold.countP (fun e => carries e.txn r g) + s.issueQueue.countP (fun t => carries t r g) +
    (List.finRange 16).countP fun i => s.leads i && (s.slot i).named r g

/-- No two live transactions have both the same requester and the same tag (R26). -/
def LiveLaw (s : State) : Prop := ∀ (r : RequesterId) (g : Tag), s.liveCount r g ≤ 1

/-- How many responses with this requester and tag the last command gave. -/
def State.answersGiven (s : State) (r : RequesterId) (g : Tag) : Nat :=
  s.out.responses.countP fun x => decide (x.requester = r) && decide (x.tag = g)

/-- How many transactions with this requester and tag a command takes: one when it presents such a request and `t`,
the state after it, keeps no request waiting (R22, R23). -/
def takes (c : Instr) (t : State) (r : RequesterId) (g : Tag) : Nat :=
  match c with
  | .transactionTaken x => if carries x r g && decide (t.uPort ≠ .waiting) then 1 else 0
  | _ => 0

/-! ## What a window end does -/

/-- The configuration in force after a window end (R146, R149). -/
def State.configAfter (s : State) (cause : WindowEndCause) : Configuration :=
  if s.applies cause then s.staged else s.active

/-- A requester's record as the evaluation at a window end finds it: an apply clears those of absent requesters
(R95). -/
def State.recordBefore (s : State) (cause : WindowEndCause) (r : RequesterId) : Restraint :=
  if s.applies cause && !(s.staged.requesters[r]).present then Restraint.clean else s.restraint r

/-- The window end evaluates the requester (R87). -/
def State.evaluatedAt (s : State) (cause : WindowEndCause) (r : RequesterId) : Bool :=
  decide ((s.configAfter cause).global.mode = .regulating) && ((s.configAfter cause).requesters[r]).present &&
    decide ((s.recordBefore cause r).standing ≠ .isolated)

/-- The strike count after R88. -/
def strikesAfter (x : Restraint) : Nat := if x.curbHit then min (x.strikes + 1) 15 else x.strikes - 1

/-- The window end escalates the requester (R89). -/
def State.escalatedAt (s : State) (cause : WindowEndCause) (r : RequesterId) : Bool :=
  s.evaluatedAt cause r && decide (((s.configAfter cause).requesters[r]).escalationLimit ≠ 0) &&
    decide (((s.configAfter cause).requesters[r]).escalationLimit ≤ strikesAfter (s.recordBefore cause r))

/-- The record after the window end (R88, R89). -/
def State.recordAfter (s : State) (cause : WindowEndCause) (r : RequesterId) : Restraint :=
  let x := s.recordBefore cause r
  if s.evaluatedAt cause r then
    { standing := if s.escalatedAt cause r then .isolated else if x.curbHit then .curbed else .free
      strikes := strikesAfter x, curbHit := false }
  else x

/-- The apply of this window end flushes the entry (R61). -/
def State.flushedAt (s : State) (cause : WindowEndCause) (e : HeldEntry) : Bool :=
  s.applies cause &&
    (!(s.staged.requesters[e.txn.requester]).present ||
      (decide (s.staged.global.mode = .regulating) &&
        decide ((s.restraint e.txn.requester).standing = .isolated)))

/-- The commit controller after a window end (R146, R147, R149). -/
def State.commitAfter (s : State) (cause : WindowEndCause) : CommitController :=
  if s.applies cause then
    { state := .idle, pause := false, outcome := .applied, outcomeWindow := s.timer.windowNumber + 1 }
  else if s.commit.state = .armed .drained then
    { s.commit with state := .draining 0 s.active.global.drainLimit, pause := true }
  else s.commit

/-- The incidents of a window end: COMMIT_APPLIED of an apply, and ESCALATED in ascending order of requester number
(R87, R151). -/
def State.appliedIncidents (s : State) (cause : WindowEndCause) : List Incident :=
  if s.applies cause then [.commitApplied] else []

def State.escalatedIncidents (s : State) (cause : WindowEndCause) : List Incident :=
  ((List.finRange 32).filter fun r => s.escalatedAt cause r).map Incident.escalated

/-- The entry reaches the hold age limit at this window end and no flush takes it (R50, R61, R89). -/
def State.expiredAt (s : State) (cause : WindowEndCause) (e : HeldEntry) : Bool :=
  !s.flushedAt cause e && !s.escalatedAt cause e.txn.requester &&
    decide ((s.configAfter cause).global.holdAgeLimit ≠ 0) &&
    decide ((s.configAfter cause).global.holdAgeLimit ≤ min (e.age + 1) 15)

/-- The responses to a list of held entries. -/
def answersTo (entries : List HeldEntry) (o : ResponseOutcome) : List Response :=
  entries.map fun e => { requester := e.txn.requester, tag := e.txn.tag, outcome := o, data := [] }

/-- The entries of the escalated requesters: each requester's in list order (R60), and the requesters in ascending order,
which for their responses is the model's choice (log entry 8). -/
def State.escalatedEntries (s : State) (cause : WindowEndCause) : List HeldEntry :=
  ((List.finRange 32).filter fun r => s.escalatedAt cause r).flatMap fun r =>
    s.hold.filter fun e => !s.flushedAt cause e && decide (e.txn.requester = r)

/-- What a window end of this cause does to every block (R2, R3, R5, R13, R16, R17, R19, R49, R60, R61, R87 to R89,
R95, R146, R147, R151): `t` is the part after it, and `expired` the entries whose expiry joined the log before another
block's record (all that expire, or none: then their expiry is the step HOLD_EXPIRY). Which block's incidents joined
first is left open (R162). -/
def WindowEndsExpiring (cause : WindowEndCause) (expired : List HeldEntry) (s t : State) : Prop :=
  t = { s with timer := t.timer, active := t.active, accounts := t.accounts, restraints := t.restraints,
               hold := t.hold, commit := t.commit, log := t.log, latched := t.latched, out := t.out,
               openChoices := t.openChoices } ∧
  t.active = s.configAfter cause ∧
  t.timer = { counter := if cause = .sync then (s.configAfter cause).global.syncPhase else 0, elapsed := 0,
              windowNumber := s.timer.windowNumber + 1 } ∧
  (∀ r : RequesterId,
    (t.account r).balance =
      (if (t.entry r).accounted then
        if 0 ≤ (s.account r).balance then
          ((t.entry r).allowance : Int) + min (s.account r).balance ((t.entry r).carryLimit : Int)
        else ((t.entry r).allowance : Int) + (s.account r).balance
      else if s.applies cause then 0 else (s.account r).balance) ∧
    (t.account r).beatsLast = (s.account r).beatsThis ∧ (t.account r).beatsThis = 0 ∧
    (t.account r).retryCount =
      (if (t.entry r).present then
        (s.account r).retryCount + BitVec.ofNat 16 (expired.countP fun e => decide (e.txn.requester = r))
      else (s.account r).retryCount) ∧
    (t.account r).deniedCount =
      (if (t.entry r).present then
        (s.account r).deniedCount + BitVec.ofNat 16 (s.hold.countP fun e =>
          decide (e.txn.requester = r) && (s.flushedAt cause e || s.escalatedAt cause r))
      else (s.account r).deniedCount) ∧
    t.restraint r = s.recordAfter cause r) ∧
  t.hold = ((s.hold.filter fun e =>
      !s.flushedAt cause e && !s.escalatedAt cause e.txn.requester &&
        (expired.isEmpty || !s.expiredAt cause e)).map
    fun e => { e with age := min (e.age + 1) 15 }) ∧
  t.commit = s.commitAfter cause ∧
  (∃ answers : List (List Response),
    answers.Perm [answersTo (s.escalatedEntries cause) .denied, answersTo expired .retry] ∧
    t.out = { responses := answersTo (s.hold.filter fun e => s.flushedAt cause e) .denied ++ answers.flatten,
              pieces := [], shifted := [] }) ∧
  (∃ incidents : List (List Incident),
    incidents.Perm [s.appliedIncidents cause, s.escalatedIncidents cause,
      expired.map fun e => .holdExpired e.txn.requester e.txn.tag] ∧
    t.log = s.log.handed (s.timer.windowNumber + 1) incidents.flatten ∧
    t.latched =
      { s.latched with
        commitDone := s.latched.commitDone || s.applies cause
        isolation := s.latched.isolation || !(s.escalatedIncidents cause).isEmpty
        logLost := s.latched.logLost || s.log.overflows incidents.flatten })

/-- A window end of this cause: the entries that expire do so in the step HOLD_EXPIRY after it, or, when a commit is
applied or a requester escalated at the same window end, possibly within it (R162). -/
def WindowEnds (cause : WindowEndCause) (s t : State) : Prop :=
  WindowEndsExpiring cause [] s t ∨
    ((s.applies cause || !(s.escalatedIncidents cause).isEmpty) = true ∧
      WindowEndsExpiring cause (s.hold.filter fun e => s.expiredAt cause e) s t)

/-! ## What a refused transaction and recorded incidents leave -/

/-- A transaction answered RETRY or DENIED without reaching memory: one response without data, counted in its
requester's account when that requester is present in the active configuration (R17, R38). -/
def State.withRefusal (s : State) (x : Transaction) (o : ResponseOutcome) : State :=
  { s with
    out := { s.out with responses := s.out.responses ++
      [{ requester := x.requester, tag := x.tag, outcome := o, data := [] }] }
    accounts := Table.remap s.accounts fun r a =>
      if r = x.requester ∧ (s.entry r).present = true then
        { a with retryCount := if o = .retry then a.retryCount + 1 else a.retryCount
                 deniedCount := if o = .denied then a.deniedCount + 1 else a.deniedCount }
      else a }

/-- Incidents handed to the log in this order, in the current window: recorded while there is room, else dropped with
LOG_LOST latched (R161, R163). -/
def State.withIncidents (s : State) (is : List Incident) : State :=
  { s with
    log := s.log.handed s.timer.windowNumber is
    latched := { s.latched with logLost := s.latched.logLost || s.log.overflows is } }

/-- A transaction that has joined the tail of the issue queue: charged in REGULATING mode when its requester is
present and regulated (R11), counted in beats this window (R15). -/
def State.withJoined (s : State) (x : Transaction) : State :=
  { s with
    issueQueue := s.issueQueue ++ [x]
    accounts := Table.remap s.accounts fun r a =>
      if r = x.requester then
        { a with balance :=
                   if s.active.global.mode = .regulating ∧ (s.entry r).present = true ∧
                     (s.entry r).regulated = true then a.balance - (x.length.val : Int) else a.balance
                 beatsThis := min (a.beatsThis + x.length.val) 65535 }
      else a }

/-- A live transaction with this requester and tag (R26): held, in the issue queue, or with a slot ISSUED or
DONE_WAITING. -/
def LivePair (s : State) (r : RequesterId) (g : Tag) : Prop :=
  (∃ e ∈ s.hold, e.txn.requester = r ∧ e.txn.tag = g) ∨
  (∃ x ∈ s.issueQueue, x.requester = r ∧ x.tag = g) ∨
  ∃ (i : SlotId) (q : SlotRecord), (s.slot i = .issued q ∨ s.slot i = .doneWaiting q) ∧
    q.requester = r ∧ q.tag = g

/-- The malformed transactions (R25). -/
def Malformed (x : Transaction) : Prop :=
  x.address.toNat % 16 ≠ 0 ∨ x.length.val = 0 ∨ 16 < x.length.val ∨
    2 ^ 40 < x.address.toNat + 16 * x.length.val

/-- The four conditions of a match (R70): valid, kind, class, and overlap, which holds when the transaction's address is
at most the entry's limit and its last byte is at least the entry's base. -/
def Matches (e : RangeEntry) (cls : Nat) (x : Transaction) : Prop :=
  e.valid = true ∧ (e.kinds = .both ∨ (e.kinds = .read ∧ x.kind = .read) ∨ (e.kinds = .write ∧ x.kind = .write)) ∧
    e.classes.getLsbD cls = true ∧
    x.address.toNat ≤ e.limit.toNat ∧ e.base.toNat ≤ x.address.toNat + 16 * x.length.val - 1

/-- The range check's decision with no restriction: PASS by the deciding entry, or no entry matches (R71). -/
def RangePasses (s : State) (x : Transaction) : Prop :=
  (∀ n : RangeId, ¬ Matches (s.active.ranges[n]) (s.entry x.requester).cls x) ∨
    ∃ n : RangeId, Matches (s.active.ranges[n]) (s.entry x.requester).cls x ∧
      (s.active.ranges[n]).action = .pass ∧
      ∀ m : RangeId, m < n → ¬ Matches (s.active.ranges[m]) (s.entry x.requester).cls x

/-- Entry `n` decides the transaction with this action (R71). -/
def Decides (s : State) (x : Transaction) (n : RangeId) (a : RangeAction) : Prop :=
  Matches (s.active.ranges[n]) (s.entry x.requester).cls x ∧ (s.active.ranges[n]).action = a ∧
    ∀ m : RangeId, m < n → ¬ Matches (s.active.ranges[m]) (s.entry x.requester).cls x

/-- Steps 1 to 4b are passed in REGULATING mode: the transaction reaches the range check (R69). -/
def ReachesRangeCheck (s : State) (x : Transaction) : Prop :=
  ¬ Malformed x ∧ ¬ LivePair s x.requester x.tag ∧ s.restart = .idle ∧ s.active.global.mode = .regulating ∧
    (s.entry x.requester).present = true ∧ (s.restraint x.requester).standing ≠ .isolated

/-- Steps 1 to 4 are passed: the transaction reaches the hold test, in either mode (R28, R33). -/
def ReachesHoldTest (s : State) (x : Transaction) : Prop :=
  ¬ Malformed x ∧ ¬ LivePair s x.requester x.tag ∧ s.restart = .idle ∧
    (s.active.global.mode = .regulating →
      (s.entry x.requester).present = true ∧ (s.restraint x.requester).standing = .free ∧ RangePasses s x)

/-- The hold test (R33). -/
def ToBeHeld (s : State) (r : RequesterId) : Prop :=
  s.commit.pause = true ∨ (∃ e ∈ s.hold, e.txn.requester = r) ∨
    (s.active.global.mode = .regulating ∧ (s.entry r).regulated = true ∧ (s.account r).balance < 1)

/-- An entry is eligible for release but for the free issue queue entry (R53): with the entries listed before it. -/
def EligibleAfter (s : State) (before : List HeldEntry) (e : HeldEntry) : Prop :=
  (∃ after : List HeldEntry, s.hold = before ++ e :: after) ∧
    (∀ x ∈ before, x.txn.requester ≠ e.txn.requester) ∧ s.commit.pause = false ∧ s.restart = .idle ∧
    (s.active.global.mode = .regulating →
      (s.restraint e.txn.requester).standing = .free ∧
        ((s.entry e.txn.requester).regulated = false ∨ 1 ≤ (s.account e.txn.requester).balance))

/-- A slot's timeout is reached under this limit (R128). -/
def Slot.overdue (limit : Nat) : Slot → Bool
  | .free => false
  | .issued r => decide (limit ≠ 0) && decide (limit ≤ r.ticks)
  | .doneWaiting _ => false
  | .abandoned _ => false

/-- The FAULT responses when the ISSUED slots named go ABANDONED in ascending order: one for each transaction whose last
piece ends so. That is a piece with no partner reference (every WHOLE one), or one whose partner is not ISSUED any more:
it was not before, or it is named too and has the lower number (R128, R136). -/
def State.faultsOf (s : State) (named : SlotId → Bool) : List Response :=
  (List.finRange 16).filterMap fun i =>
    match s.slot i with
    | .issued r =>
      let last := match r.partner with
        | none => true
        | some p => !(s.slot p).isIssued || (named p && decide (p < i))
      if named i && last then some { requester := r.requester, tag := r.tag, outcome := .fault, data := [] } else none
    | .free => none
    | .doneWaiting _ => none
    | .abandoned _ => none

/-- The outstanding table after the ISSUED slots named go ABANDONED with outcome TIMEOUT: a DONE_WAITING partner of one
goes FREE and is no longer named (R126, R128, R136). -/
def Abandons (s t : State) (named : SlotId → Bool) : Prop :=
  ∀ i : SlotId, t.slot i =
    match s.slot i with
    | .free => .free
    | .abandoned r => .abandoned r
    | .doneWaiting r => if (r.partner.map named).getD false then .free else .doneWaiting r
    | .issued r =>
      if named i then
        .abandoned { r with
          outcome := .timeout, readData := none
          partner := if (r.partner.map fun p => (s.slot p).isDoneWaiting).getD false then none else r.partner }
      else .issued r

end Sys2Proof.Machine
end

