-- ==== Sys2Proof/WellFormed.lean ====
section
/-! DEFINITION. Which terms of `Instr` a partner of the WL432 can send. The meanings are total on the others too. -/

namespace Sys2Proof

/-- A WRITE brings as many beats as its length field states, a READ none (R21). -/
def Transaction.wf (t : Transaction) : Bool :=
  match t.kind with
  | .read => t.data.isEmpty
  | .write => decide (t.data.length = t.length.val)

/-- A transfer that row COMMAND_FRAME_REFUSED is about: its marker is COMMAND and its frame fails a check of R174. -/
def refusedTransfer (transfer : List Byte) : Bool :=
  match transfer with
  | [] => false
  | marker :: frame =>
    decide (marker = Config.commandMarker) &&
      match checkFrame frame with
      | .command _ => false
      | .frameError => true
      | .unknownCommand => true

/-- The commands a partner can send: a transaction with its beats, a completion whose data is that of an OK
completion (R120), parameter blocks of the length their command has (R190, R191), a refused frame that is refused. -/
def Instr.wf : Instr → Bool
  | .transactionTaken t => t.wf
  | .completion _ outcome data => decide (outcome = .ok) || data.isEmpty
  | .writeGlobal _ block => decide (block.length = 13)
  | .writeRequester _ _ block => decide (block.length = 10)
  | .writeRange _ _ block => decide (block.length = 14)
  | .commandFrameRefused transfer => refusedTransfer transfer
  | .tick => true
  | .windowEndByExpiry => true
  | .sync => true
  | .holdExpiry => true
  | .drainedCommitApply => true
  | .commitAbandoned => true
  | .heldEntryRelease => true
  | .issue => true
  | .completionTimeout => true
  | .restartNormalEnd => true
  | .restartForcedEnd => true
  | .reset => true
  | .answerRead _ => true
  | .getIdentity _ => true
  | .readStatus _ => true
  | .readGlobal _ _ => true
  | .readRequester _ _ _ => true
  | .readRange _ _ _ => true
  | .copyActiveToStaged _ => true
  | .commit _ _ => true
  | .cancelCommit _ => true
  | .restart _ => true
  | .recoverDownstream _ => true
  | .isolate _ _ => true
  | .release _ _ => true
  | .readHold _ _ => true
  | .readSlots _ => true
  | .readLog _ _ => true
  | .setAlertMask _ _ => true
  | .ackAlert _ _ => true

end Sys2Proof
end

