-- ==== Sys2Proof/Certificates/Slice0/Obligations.lean ====
section
/-! DEFINITION. The statements about the WL432, for the provers. A hypothesis `s.settled = true` says that nothing is
due: the part stands between two events. `s.arrivalReady = true` lets the expiry of the window end before be due still, as
it may be when a transaction is taken. `s.linkReady = true` says besides that the M-link's select period is not one
within which a full reset was taken. `exec c s = .next t` with `t` given whole is a statement of the command's
effect and of everything it leaves unchanged. -/

open Sys2Proof Sys2Proof.Machine

/-! ## The machine -/

/-- A step takes the command at the front of the queue and runs it on the part with the queue's rest. -/
def Obligations.StepRunsFrontCommand : Prop :=
  ∀ (c : Instr) (q : List Instr) (s : State),
    step { s with pending := c :: q } = exec c { s with pending := q }

/-- Every command has an effect in every state: none faults and none is refused, and none changes the queue. The manual
gives the effects; that there is one for operands no partner can send (log entry 13) and for a step of the part whose
condition does not hold (log entry 4), and that RESET keeps the queue (log entry 14), are the model's choices. -/
def Obligations.EveryCommandAnswersAndKeepsQueue : Prop :=
  ∀ (c : Instr) (s : State), ∃ t : State, exec c s = .next t ∧ t.pending = s.pending

/-- RESET returns every block to its full-reset values and gives no response. Within a select period it also makes the
transfer in progress ignored up to its end: what was shifted out before it is the marker's fill byte and the answer frame
of an ANSWER_READ, else fill bytes (section 10.1). That the step of the reset shows these bytes on the port is the model's
choice (log entry 9), and so is that the queue of commands stays (log entry 14) and the model's own count of open choices
goes on (log entry 2). -/
def Obligations.ResetRestoresFullResetValues : Prop :=
  ∀ s : State, s.settled = true →
    let ignoring (shifted : List Byte) : Host.Outcome State Fault Refusal := .next
      { State.reset with
        pending := s.pending, openChoices := s.openChoices
        link := { answer := none, lastSeq := 0, lastCode := 0, select := .ignored }
        out := { responses := [], pieces := [], shifted := shifted } }
    (s.link.select = .ignored ∨ s.link.select = .receiving [] → exec .reset s = ignoring []) ∧
    (∀ (marker : Byte) (rest : List Byte), s.link.select = .receiving (marker :: rest) →
      exec .reset s = ignoring (0xFF :: (if marker = 0xA5
        then (s.link.frame.bytes ++ List.replicate rest.length 0xFF).take rest.length
        else List.replicate rest.length 0xFF))) ∧
    (s.link.select = .released → ∃ t : State, exec .reset s = .next t ∧
    t = { State.reset with pending := s.pending, openChoices := s.openChoices } ∧
    t.timer = { counter := 0, elapsed := 0, windowNumber := 0 } ∧
    t.active = t.staged ∧
    t.active.global = 
      { mode := .transparent, period := 1000, syncEnable := false, syncPhase := 0, syncGuard := 0,
        completionLimit := 0, drainLimit := 1000, holdAgeLimit := 0 } ∧
    (∀ r : RequesterId,
      t.entry r =
        { present := true, regulated := false, allowance := 0, carryLimit := 0, level := 0, cls := 0,
          holdShare := 0, escalationLimit := 0 } ∧
      t.account r = { balance := 0, beatsThis := 0, beatsLast := 0, retryCount := 0, deniedCount := 0 } ∧
      t.restraint r = { standing := .free, strikes := 0, curbHit := false }) ∧
    (∀ n : RangeId, t.active.ranges[n] =
      { valid := false, base := 0, limit := 255, kinds := .both, classes := 1, action := .pass }) ∧
    (∀ i : SlotId, t.slot i = .free) ∧ t.hold = [] ∧ t.issueQueue = [] ∧
    t.commit = { state := .idle, pause := false, outcome := .none, outcomeWindow := 0 } ∧ t.restart = .idle ∧
    t.log = { records := [], nextSeq := 0, lost := 0 } ∧ t.alertLine = false ∧
    t.link = { answer := none, lastSeq := 0, lastCode := 0, select := .released } ∧ t.out.responses = [])

/-! ## The time path -/

/-- TICK counts in the window timer, in every ISSUED slot and in a running drain, and changes nothing else but what the
model notes of it: that the slots' comparison with the completion limit, as it stands at this tick, is still to be taken,
and, when a restart's drain has reached its limit and is not complete, its forced end (log entry 4). -/
def Obligations.TickIsCountedEverywhere : Prop :=
  ∀ s : State, s.settled = true → ∃ t : State, exec .tick s = .next t ∧
    t = { s with timer := t.timer, slots := t.slots, commit := t.commit, restart := t.restart,
                 timeoutCheck := some s.active.global.completionLimit, forcedEnd := t.forcedEnd,
                 out := Outputs.none } ∧
    t.timer = { counter := s.timer.counter + 1, elapsed := s.timer.elapsed + 1,
                windowNumber := s.timer.windowNumber } ∧
    (∀ i : SlotId, t.slot i =
      match s.slot i with
      | .issued r => .issued { r with ticks := min (r.ticks + 1) 65535 }
      | x => x) ∧
    t.commit = (match s.commit.state with
      | .draining n l => { s.commit with state := .draining (min (n + 1) 65535) l }
      | _ => s.commit) ∧
    t.restart = (match s.restart with
      | .draining n l => .draining (min (n + 1) 65535) l
      | .idle => .idle) ∧
    (t.forcedEnd = true ↔
      (∃ n l : Nat, s.restart = .draining n l ∧ l ≤ min (n + 1) 65535) ∧
        (s.issueQueue ≠ [] ∨ ∃ (i : SlotId) (q : SlotRecord), s.slot i = .issued q))

/-- When the counter has reached the active period, WINDOW_END_BY_EXPIRY is a window end with all its effects. Three
conventions of `WindowEnds` are the model's choices: over-age entries are left to HOLD_EXPIRY unless their records join
earlier (log entry 5), an apply's flush answers stand first and those of escalated requesters go requester by requester
in ascending order (log entry 8), and the records of one block stand together (log entry 2). -/
def Obligations.WindowEndByExpiryEndsTheWindow : Prop :=
  ∀ s : State, s.holdClosed = true → s.active.global.period ≤ s.timer.counter →
    ∃ t : State, exec .windowEndByExpiry s = .next t ∧ WindowEnds .expiry s t

/-- SYNC by its three cases: ignored, honoured with a window end by sync, or early with SYNC_EARLY recorded. The window
end is `WindowEnds`, with the model's choices of log entries 2, 5 and 8: records of a block together, expiry a step of
its own, an apply's flush answers first and escalated requesters' in ascending order. -/
def Obligations.SyncActsByItsThreeCases : Prop :=
  ∀ s : State, s.settled = true →
    (s.active.global.syncEnable = false → exec .sync s = .next s.clearOut) ∧
    (s.active.global.syncEnable = true → s.active.global.syncGuard ≤ s.timer.elapsed →
      ∃ t : State, exec .sync s = .next t ∧ WindowEnds .sync s t) ∧
    (s.active.global.syncEnable = true → s.timer.elapsed < s.active.global.syncGuard →
      exec .sync s = .next (s.clearOut.withIncidents [.syncEarly]))

/-- A tick that reaches the period and a sync with guard 0 fall together: both orders, with no commit pending. -/
def Obligations.TickAndSyncTogetherInBothOrders : Prop :=
  ∀ s : State, s.settled = true → s.commit.state = .idle → s.restart = .idle →
    s.active.global.syncEnable = true → s.active.global.syncGuard = 0 →
    s.active.global.holdAgeLimit = 0 → s.active.global.completionLimit = 0 →
    s.active.global.syncPhase + 1 < s.active.global.period →
    s.timer.counter + 1 = s.active.global.period →
    (∃ t u : State, exec .tick s = .next t ∧ exec .sync t = .next u ∧
      u.timer = { counter := s.active.global.syncPhase, elapsed := 0,
                  windowNumber := s.timer.windowNumber + 2 }) ∧
    ∃ t u : State, exec .sync s = .next t ∧ exec .tick t = .next u ∧
      u.timer = { counter := s.active.global.syncPhase + 1, elapsed := 1,
                  windowNumber := s.timer.windowNumber + 1 }

/-- At every window end, by expiry, by sync or by commit, every present regulated requester's balance is refilled with
the values in force after any apply at that window end; unused balance above the carry limit is lost, a debt is paid. -/
def Obligations.RefillAtEveryWindowEnd : Prop :=
  ∀ (s : State) (cause : WindowEndCause) (r : RequesterId),
    let t := s.windowEnd cause
    t.active = s.configAfter cause ∧
    ((t.entry r).present = true → (t.entry r).regulated = true →
      (0 ≤ (s.account r).balance → (t.account r).balance =
        ((t.entry r).allowance : Int) + min (s.account r).balance ((t.entry r).carryLimit : Int)) ∧
      ((s.account r).balance < 0 →
        (t.account r).balance = ((t.entry r).allowance : Int) + (s.account r).balance))

/-- At every window end beats this window is copied into beats last window and becomes 0, in both modes and for every
requester; after two window ends with nothing forwarded between them, beats last window is 0. -/
def Obligations.RolloverAtEveryWindowEnd : Prop :=
  ∀ (s : State) (cause next : WindowEndCause) (r : RequesterId),
    ((s.windowEnd cause).account r).beatsLast = (s.account r).beatsThis ∧
    ((s.windowEnd cause).account r).beatsThis = 0 ∧
    (((s.windowEnd cause).windowEnd next).account r).beatsLast = 0

/-- What a requester had forwarded in a window that ran in REGULATING mode stays within its allowance plus its carry
limit plus 15. -/
def Obligations.WindowTrafficIsBounded : Prop :=
  ∀ (s : State) (cause : WindowEndCause) (r : RequesterId), BalanceLaw s → SpendLaw s →
    s.active.global.mode = .regulating → (s.entry r).present = true → (s.entry r).regulated = true →
    ((s.windowEnd cause).account r).beatsLast ≤ (s.entry r).allowance + (s.entry r).carryLimit + 15

/-- HOLD_EXPIRY removes every entry at or above a hold age limit that is not 0, answers each RETRY in list order and
records HOLD_EXPIRED for each in that order. -/
def Obligations.HoldExpiryAnswersRetry : Prop :=
  ∀ s : State,
    let gone := s.hold.filter fun e =>
      decide (s.active.global.holdAgeLimit ≠ 0) && decide (s.active.global.holdAgeLimit ≤ e.age)
    ∃ t : State, exec .holdExpiry s = .next t ∧
      t = { (s.clearOut.withIncidents (gone.map fun e => .holdExpired e.txn.requester e.txn.tag)) with
            hold := t.hold, accounts := t.accounts, out := t.out } ∧
      t.hold = (s.hold.filter fun e =>
        decide (s.active.global.holdAgeLimit = 0) || decide (e.age < s.active.global.holdAgeLimit)) ∧
      t.out = { responses := answersTo gone .retry, pieces := [], shifted := [] } ∧
      ∀ r : RequesterId, t.account r =
        if (s.entry r).present then
          { s.account r with
            retryCount := (s.account r).retryCount +
              BitVec.ofNat 16 (gone.countP fun e => decide (e.txn.requester = r)) }
        else s.account r

/-! ## Commit and restart drains -/

/-- A DRAINING commit whose drain is complete is applied with a window end by commit. The window end is `WindowEnds`,
with the model's choices of log entries 2, 5 and 8: records of a block together, expiry a step of its own, an apply's
flush answers first and escalated requesters' in ascending order. -/
def Obligations.DrainedCommitIsApplied : Prop :=
  ∀ (s : State) (ticks limit : Nat), s.tickClosed = true → s.commit.state = .draining ticks limit →
    s.issueQueue = [] → (∀ (i : SlotId) (q : SlotRecord), s.slot i ≠ .issued q) →
    ∃ t : State, exec .drainedCommitApply s = .next t ∧ WindowEnds .commit s t

/-- A DRAINING commit whose drain tick count has reached the captured limit is abandoned: the pause cleared, the
outcome ABANDONED, COMMIT_ABANDONED recorded, COMMIT_FAILED latched; configuration, queues and slots stay. -/
def Obligations.CommitIsAbandonedAtDrainLimit : Prop :=
  ∀ (s : State) (ticks limit : Nat), s.holdClosed = true → s.commit.state = .draining ticks limit →
    limit ≤ ticks →
    exec .commitAbandoned s = .next
      (({ s.clearOut with commit := { state := .idle, pause := false, outcome := .abandoned,
                                      outcomeWindow := s.timer.windowNumber } }.withIncidents
          [.commitAbandoned]).latch fun c => { c with commitFailed := true })

/-- A restart whose drain is complete ends: accounts, restraint records and the window timer at their starting values,
RESTART_DONE latched, nothing recorded; configuration, log, slots and mask stay. When the drain was not complete at the tick
that reached its limit, the forced end of that tick is the end and this step changes nothing, even if a timeout of the tick
has completed the drain since: that reading of section 7.6 is the model's (log entry 4). -/
def Obligations.RestartEndsWhenDrained : Prop :=
  ∀ (s : State) (ticks limit : Nat), s.tickClosed = true → s.restart = .draining ticks limit →
    s.issueQueue = [] → (∀ (i : SlotId) (q : SlotRecord), s.slot i ≠ .issued q) →
    (s.forcedEnd = true → limit ≤ ticks → exec .restartNormalEnd s = .next s.clearOut) ∧
    (s.forcedEnd = false → ∃ t : State, exec .restartNormalEnd s = .next t ∧
      t = { s.clearOut with accounts := t.accounts, restraints := t.restraints,
                            timer := { counter := 0, elapsed := 0, windowNumber := 0 }, restart := .idle,
                            latched := { s.latched with restartDone := true } } ∧
      ∀ r : RequesterId,
        t.account r = { balance := if (s.entry r).present = true ∧ (s.entry r).regulated = true
                          then ((s.entry r).allowance : Int) else 0
                        beatsThis := 0, beatsLast := 0, retryCount := 0, deniedCount := 0 } ∧
        t.restraint r = { standing := .free, strikes := 0, curbHit := false })

/-- The forced end of a restart, after the tick that reached the drain limit and found the drain not complete: queued
entries answered RETRY in queue order, every slot still ISSUED ABANDONED, FAULT given for each transaction whose last piece
ends so, RESTART_FORCED recorded with the count of those slots, 0 when a timeout of the same tick was first and left none,
then the restart's end. When the same tick's window end was still due, the forced end was first of the two and the tick
counts as the first of window 0; when it has been taken, the timer is all 0; on a tick that ends no window either is open
(log entry 11). That the two kinds of response do not interleave is the model's choice (log entry 2); which comes first is
open. A drain that was complete at that tick is not ended by force: the step then changes nothing, and that it is then no
event at all is the model's (log entry 4). -/
def Obligations.RestartForcedEndEmptiesThePath : Prop :=
  ∀ (s : State) (ticks limit : Nat), PairLaw s → s.holdClosed = true → s.restart = .draining ticks limit →
    limit ≤ ticks →
    (s.forcedEnd = false → exec .restartForcedEnd s = .next s.clearOut) ∧
    (s.forcedEnd = true →
      ∃ t : State, exec .restartForcedEnd s = .next t ∧
        t = { s.withIncidents [.restartForced ((List.finRange 16).countP fun i => (s.slot i).isIssued)] with
              issueQueue := [], slots := t.slots, accounts := t.accounts, restraints := t.restraints,
              timer := t.timer, restart := .idle, latched := t.latched, out := t.out,
              forcedEnd := false, openChoices := t.openChoices } ∧
        t.latched = { s.latched with
          restartDone := true
          logLost := s.latched.logLost || decide (32 ≤ s.log.records.length) } ∧
        (s.active.global.period ≤ s.timer.counter →
          t.timer = { counter := 1, elapsed := 1, windowNumber := 0 }) ∧
        (s.timer.counter = 0 → s.timer.counter < s.active.global.period →
          t.timer = { counter := 0, elapsed := 0, windowNumber := 0 }) ∧
        (t.timer = { counter := 0, elapsed := 0, windowNumber := 0 } ∨
          t.timer = { counter := 1, elapsed := 1, windowNumber := 0 }) ∧
        Abandons s t (fun i => (s.slot i).isIssued) ∧
        (let retries := s.issueQueue.map fun x =>
            { requester := x.requester, tag := x.tag, outcome := .retry, data := [] }
          let faults := s.faultsOf fun i => (s.slot i).isIssued
          t.out = { responses := retries ++ faults, pieces := [], shifted := [] } ∨
            t.out = { responses := faults ++ retries, pieces := [], shifted := [] }) ∧
        ∀ r : RequesterId,
          t.account r = { balance := if (s.entry r).present = true ∧ (s.entry r).regulated = true
                            then ((s.entry r).allowance : Int) else 0
                          beatsThis := 0, beatsLast := 0, retryCount := 0, deniedCount := 0 } ∧
          t.restraint r = { standing := .free, strikes := 0, curbHit := false })

/-- An empty queue leaves the part idle, and the part's own steps do nothing while their condition does not hold. The
manual says when each is taken and gives no event for the other cases: both are the model's choices (log entries 4 and
6). -/
def Obligations.IdleStepsDoNothing : Prop :=
  (∀ s : State, s.pending = [] → step s = .next s) ∧
  ∀ s : State, s.settled = true →
    exec .windowEndByExpiry s = .next s.clearOut ∧ exec .holdExpiry s = .next s.clearOut ∧
    exec .completionTimeout s = .next s.clearOut ∧ exec .commitAbandoned s = .next s.clearOut ∧
    exec .restartForcedEnd s = .next s.clearOut ∧
    (s.commit.state = .idle → exec .drainedCommitApply s = .next s.clearOut) ∧
    (s.restart = .idle → exec .restartNormalEnd s = .next s.clearOut) ∧
    (s.issueQueue = [] → exec .issue s = .next s.clearOut) ∧
    (s.hold = [] → exec .heldEntryRelease s = .next s.clearOut)

/-! ## Admission -/

/-- The U-port takes a request exactly when the issue queue has a free entry, unless it is the last one and the
release unit claims it together with a request that was already kept waiting; a request that is not taken waits, and
nothing else happens. A waiting request with two free entries, or with one that the release unit does not claim, is
granted one, and keeps it: releases leave it one free entry, and with only that one free no release is taken. How a
waiting request is held in the state is the model's (log entry 7). -/
def Obligations.UPortTakesOnlyWhenGranted : Prop :=
  (∀ s : State,
    let alone := ¬ ∃ (before : List HeldEntry) (e : HeldEntry), EligibleAfter s before e
    let due := s.uPort = .waiting ∧ (s.issueQueue.length < 7 ∨ (s.issueQueue.length = 7 ∧ alone))
    (due → s.takeGrant = { s with uPort := .granted }) ∧ (¬ due → s.takeGrant = s)) ∧
  (∀ s : State, s.arrivalReady = true →
    (s.uPortGranted = true ↔
      s.issueQueue.length < 8 ∧
        ¬ (s.issueQueue.length = 7 ∧ s.uPort = .waiting ∧
          ∃ (before : List HeldEntry) (e : HeldEntry), EligibleAfter s before e)) ∧
    (s.uPortGranted = false → ∀ x : Transaction,
      exec (.transactionTaken x) s = .next { s.clearOut with uPort := .waiting })) ∧
  ∀ s : State, s.settled = true →
    (s.uPort = .granted → s.issueQueue.length = 7 → exec .heldEntryRelease s = .next s.clearOut) ∧
    (s.uPort = .granted → s.issueQueue.length < 7 → ∃ t : State, exec .heldEntryRelease s = .next t ∧
      t.uPort = .granted ∧ t.issueQueue.length < 8 ∧ t.uPortGranted = true)

/-- Steps 1 to 3: a malformed transaction is DENIED with MALFORMED whatever else holds; a well-formed one whose
requester and tag are live is DENIED with DUPLICATE_TAG, in either mode and during a restart's drain; while a restart
is DRAINING every other transaction is answered RETRY, in both modes and for every requester, with no incident. -/
def Obligations.FirstThreeStepsRefuse : Prop :=
  ∀ (s : State) (x : Transaction), s.arrivalReady = true → s.uPortGranted = true →
    (Malformed x → exec (.transactionTaken x) s =
      .next ({ (s.clearOut.withRefusal x .denied).withIncidents [.malformed x.requester x.tag x.address] with
        uPort := .none })) ∧
    (¬ Malformed x → LivePair s x.requester x.tag → exec (.transactionTaken x) s =
      .next ({ (s.clearOut.withRefusal x .denied).withIncidents [.duplicateTag x.requester x.tag] with
        uPort := .none })) ∧
    (¬ Malformed x → ¬ LivePair s x.requester x.tag → s.restart ≠ .idle →
      exec (.transactionTaken x) s = .next { s.clearOut.withRefusal x .retry with uPort := .none })

/-- Steps 4a, 4b and 4d in REGULATING mode: an absent requester is DENIED with UNKNOWN_REQUESTER, an ISOLATED one
DENIED with no incident, a CURBED one whose transaction passes the range check answered RETRY with no incident. -/
def Obligations.StandingDecidesInRegulatingMode : Prop :=
  ∀ (s : State) (x : Transaction), s.arrivalReady = true → s.uPortGranted = true →
    ¬ Malformed x → ¬ LivePair s x.requester x.tag → s.restart = .idle → s.active.global.mode = .regulating →
    ((s.entry x.requester).present = false → exec (.transactionTaken x) s =
      .next ({ (s.clearOut.withRefusal x .denied).withIncidents [.unknownRequester x.requester x.tag] with
        uPort := .none })) ∧
    ((s.entry x.requester).present = true → (s.restraint x.requester).standing = .isolated →
      exec (.transactionTaken x) s = .next { s.clearOut.withRefusal x .denied with uPort := .none }) ∧
    ((s.entry x.requester).present = true → (s.restraint x.requester).standing = .curbed → RangePasses s x →
      exec (.transactionTaken x) s = .next { s.clearOut.withRefusal x .retry with uPort := .none })

/-- Step 4c: the lowest-numbered matching entry decides. DENY and CURB refuse with their incident; CURB makes the
requester CURBED with curb-hit set and its strike count unchanged. -/
def Obligations.RangeDenyAndCurbRefuse : Prop :=
  ∀ (s : State) (x : Transaction) (n : RangeId), s.arrivalReady = true → s.uPortGranted = true →
    ReachesRangeCheck s x →
    (Decides s x n .deny → exec (.transactionTaken x) s =
      .next ({ (s.clearOut.withRefusal x .denied).withIncidents
          [.rangeDeny x.requester x.tag x.address n] with uPort := .none })) ∧
    (Decides s x n .curb → exec (.transactionTaken x) s =
      .next ({ (s.clearOut.withRefusal x .denied).withIncidents
          [.rangeCurb x.requester x.tag x.address n] with
        uPort := .none
        restraints := Table.put s.restraints x.requester
          { standing := .curbed, strikes := (s.restraint x.requester).strikes, curbHit := true } }))

/-- Step 4c: ISOLATE refuses with RANGE_ISOLATE, makes the requester ISOLATED with its strike count and curb-hit kept,
flushes its held entries with DENIED in list order, and latches ISOLATION. That the transaction's own DENIED stands before
those of the flushed entries is the model's choice: no rule orders the two (log entry 8). -/
def Obligations.RangeIsolateIsolatesAndFlushes : Prop :=
  ∀ (s : State) (x : Transaction) (n : RangeId), s.arrivalReady = true → s.uPortGranted = true →
    ReachesRangeCheck s x → Decides s x n .isolate →
    let flushed := s.hold.filter fun e => decide (e.txn.requester = x.requester)
    ∃ t : State, exec (.transactionTaken x) s = .next t ∧
      t = { s.clearOut.withIncidents [.rangeIsolate x.requester x.tag x.address n] with
            uPort := .none, hold := t.hold, accounts := t.accounts, restraints := t.restraints,
            latched := t.latched, out := t.out } ∧
      t.hold = (s.hold.filter fun e => decide (e.txn.requester ≠ x.requester)) ∧
      t.restraints = Table.put s.restraints x.requester
        { s.restraint x.requester with standing := .isolated } ∧
      t.latched = { s.latched with
        isolation := true
        logLost := s.latched.logLost || decide (32 ≤ s.log.records.length) } ∧
      t.out = { responses := (x :: flushed.map HeldEntry.txn).map fun y =>
                  { requester := y.requester, tag := y.tag, outcome := .denied, data := [] }
                pieces := [], shifted := [] } ∧
      ∀ r : RequesterId, t.account r =
        if r = x.requester then
          { s.account r with deniedCount := (s.account r).deniedCount + 1 + BitVec.ofNat 16 flushed.length }
        else s.account r

/-- Step 5: a transaction to be held joins the end of the hold queue with age 0, uncharged and unanswered, when the
queue holds fewer than 48 entries and the requester's held count is below its share; else it is answered RETRY. Taken
between a window end and its expiry it outlives that expiry, which removes only the entries whose age reaches the limit
(section 2.8). -/
def Obligations.HeldOrAnsweredRetry : Prop :=
  ∀ (s : State) (x : Transaction), s.arrivalReady = true → s.uPortGranted = true →
    ReachesHoldTest s x → ToBeHeld s x.requester →
    (s.hold.length < 48 → s.heldCount x.requester < (s.entry x.requester).holdShare →
      exec (.transactionTaken x) s =
        .next { s.clearOut with hold := s.hold ++ [{ txn := x, age := 0 }], uPort := .none } ∧
      ∃ u : State,
        exec .holdExpiry { s.clearOut with hold := s.hold ++ [{ txn := x, age := 0 }], uPort := .none } = .next u ∧
        u.hold = (s.hold.filter fun e =>
          decide (s.active.global.holdAgeLimit = 0) || decide (e.age < s.active.global.holdAgeLimit)) ++
            [{ txn := x, age := 0 }]) ∧
    ((48 ≤ s.hold.length ∨ (s.entry x.requester).holdShare ≤ s.heldCount x.requester) →
      exec (.transactionTaken x) s = .next { s.clearOut.withRefusal x .retry with uPort := .none })

/-- Step 6: a transaction that is not to be held is forwarded: charged in REGULATING mode, counted in beats this
window, and appended to the tail of the issue queue; it is then the requester's first since no entry of it is held. -/
def Obligations.ForwardedWhenNotHeld : Prop :=
  ∀ (s : State) (x : Transaction), s.arrivalReady = true → s.uPortGranted = true →
    ReachesHoldTest s x → ¬ ToBeHeld s x.requester →
    exec (.transactionTaken x) s = .next { s.clearOut.withJoined x with uPort := .none }

/-! ## Release and issue -/

/-- A release takes the eligible entry of the highest level, the earliest-listed among equals, moves it to the tail of
the issue queue, charges and counts it, and changes nothing else. The entry it moves into is one that is not granted to a
waiting request at the U-port. -/
def Obligations.ReleaseTakesHighestLevelThenEarliest : Prop :=
  ∀ (s : State) (before after : List HeldEntry) (e : HeldEntry), s.settled = true →
    s.issueQueue.length < 8 → (s.issueQueue.length = 7 → s.uPort ≠ .granted) →
    s.hold = before ++ e :: after → EligibleAfter s before e →
    (∀ (other : List HeldEntry) (x : HeldEntry), EligibleAfter s other x →
      (s.entry x.txn.requester).level < (s.entry e.txn.requester).level ∨
        ((s.entry x.txn.requester).level = (s.entry e.txn.requester).level ∧ before.length ≤ other.length)) →
    exec .heldEntryRelease s = .next { s.clearOut.withJoined e.txn with hold := before ++ after }

/-- A head within one segment is issued as one WHOLE piece into the lowest FREE slot and sent out of the D-port; with no
FREE slot it waits and nothing happens. -/
def Obligations.WholeHeadIssuesIntoLowestFreeSlot : Prop :=
  ∀ (s : State) (x : Transaction) (rest : List Transaction), s.settled = true →
    s.issueQueue = x :: rest →
    x.address.toNat + 16 * x.length.val ≤ (x.address.toNat / 2048 + 1) * 2048 →
    (∀ i : SlotId, s.slot i = .free → (∀ j : SlotId, j < i → s.slot j ≠ .free) →
      exec .issue s = .next
        { s.clearOut with
          issueQueue := rest
          slots := Table.put s.slots i (.issued
            { requester := x.requester, tag := x.tag, kind := x.kind, address := x.address,
              length := x.length.val, role := .whole, partner := none, ticks := 0, outcome := .pending,
              readData := none })
          out := { responses := [], shifted := [], pieces :=
            [{ slot := i, kind := x.kind, address := x.address, length := x.length.val, data := x.data }] } }) ∧
    ((∀ j : SlotId, s.slot j ≠ .free) → exec .issue s = .next s.clearOut)

/-- A head that crosses a segment boundary is issued as a FIRST and a SECOND piece into the two lowest FREE slots, each
naming the other, the write data divided at the boundary; with fewer than two FREE slots it waits and nothing happens. -/
def Obligations.SplitHeadIssuesAsPair : Prop :=
  ∀ (s : State) (x : Transaction) (rest : List Transaction), s.settled = true →
    s.issueQueue = x :: rest →
    (x.address.toNat / 2048 + 1) * 2048 < x.address.toNat + 16 * x.length.val →
    let boundary := (x.address.toNat / 2048 + 1) * 2048
    let n := (boundary - x.address.toNat) / 16
    (∀ i j : SlotId, s.slot i = .free → (∀ k : SlotId, k < i → s.slot k ≠ .free) → i < j →
      s.slot j = .free → (∀ k : SlotId, i < k → k < j → s.slot k ≠ .free) → exec .issue s = .next
      { s.clearOut with
        issueQueue := rest
        slots := Table.put (Table.put s.slots i (.issued
          { requester := x.requester, tag := x.tag, kind := x.kind, address := x.address, length := n,
            role := .first, partner := some j, ticks := 0, outcome := .pending, readData := none })) j (.issued
          { requester := x.requester, tag := x.tag, kind := x.kind, address := BitVec.ofNat 40 boundary,
            length := x.length.val - n, role := .second, partner := some i, ticks := 0, outcome := .pending,
            readData := none })
        out := { responses := [], shifted := [], pieces :=
          [{ slot := i, kind := x.kind, address := x.address, length := n, data := x.data.take n },
           { slot := j, kind := x.kind, address := BitVec.ofNat 40 boundary, length := x.length.val - n,
             data := x.data.drop n }] } }) ∧
    ((∀ i j : SlotId, s.slot i = .free → s.slot j = .free → i = j) → exec .issue s = .next s.clearOut)

/-- The pieces of a well-formed transaction: it splits exactly when its last byte is at or above the first boundary;
then both pieces are 1 to 15 beats, add up to its length, and lie each within one segment inside the address space. -/
def Obligations.PiecesStayWithinSegments : Prop :=
  ∀ x : Transaction, ¬ Malformed x →
    (crosses x = true ↔
      (x.address.toNat / 2048 + 1) * 2048 ≤ x.address.toNat + 16 * x.length.val - 1) ∧
    (crosses x = false → (wholePiece x).role = .whole ∧ (wholePiece x).address = x.address ∧
      (wholePiece x).length = x.length.val ∧
      x.address.toNat / 2048 = (x.address.toNat + 16 * x.length.val - 1) / 2048) ∧
    (crosses x = true →
      (firstPiece x).role = .first ∧ (secondPiece x).role = .second ∧
      (firstPiece x).address = x.address ∧
      (firstPiece x).length = ((x.address.toNat / 2048 + 1) * 2048 - x.address.toNat) / 16 ∧
      x.address.toNat + 16 * (firstPiece x).length = (x.address.toNat / 2048 + 1) * 2048 ∧
      (secondPiece x).address.toNat = (x.address.toNat / 2048 + 1) * 2048 ∧
      (secondPiece x).address.toNat ≤ 2 ^ 40 - 2048 ∧
      1 ≤ (firstPiece x).length ∧ (firstPiece x).length ≤ 15 ∧
      1 ≤ (secondPiece x).length ∧ (secondPiece x).length ≤ 15 ∧
      (firstPiece x).length + (secondPiece x).length = x.length.val ∧
      (firstPiece x).data ++ (secondPiece x).data = x.data)

/-! ## Completions and timeouts -/

/-- A completion of a WHOLE piece ends its transaction: an OK READ is DONE with the first piece-length beats carried,
missing beats taken as zeros; an OK WRITE is DONE without data; an ERROR is FAULT without data, with MEMORY_ERROR. -/
def Obligations.WholeCompletionGivesTheResponse : Prop :=
  ∀ (s : State) (i : SlotId) (q : SlotRecord) (data : List Beat), s.settled = true → PairLaw s →
    s.slot i = .issued q → q.role = .whole →
    (q.kind = .read → exec (.completion i .ok data) s = .next
      { s.clearOut with
        slots := Table.put s.slots i .free
        out := { pieces := [], shifted := [], responses :=
          [{ requester := q.requester, tag := q.tag, outcome := .done,
             data := data.take q.length ++ List.replicate (q.length - data.length) 0 }] } }) ∧
    (q.kind = .write → exec (.completion i .ok data) s = .next
      { s.clearOut with
        slots := Table.put s.slots i .free
        out := { pieces := [], shifted := [], responses :=
          [{ requester := q.requester, tag := q.tag, outcome := .done, data := [] }] } }) ∧
    exec (.completion i .error data) s = .next
      { s.withIncidents [.memoryError q.requester q.tag i q.address] with
        slots := Table.put s.slots i .free
        out := { pieces := [], shifted := [], responses :=
          [{ requester := q.requester, tag := q.tag, outcome := .fault, data := [] }] } }

/-- A completion of one piece of a split transaction: with its partner ISSUED the slot goes DONE_WAITING and keeps its
outcome and, for an OK READ, its data; with its partner ABANDONED or its reference absent the answer is FAULT and the slot
goes FREE. An ERROR is handled in the same way, keeps no data and records MEMORY_ERROR. -/
def Obligations.SplitCompletionWaitsOrFaults : Prop :=
  ∀ (s : State) (i : SlotId) (q : SlotRecord) (o : CompletionOutcome) (data : List Beat),
    s.settled = true → PairLaw s → s.slot i = .issued q → q.role ≠ .whole →
    let recorded := match o with
      | .ok => s.clearOut
      | .error => s.clearOut.withIncidents [.memoryError q.requester q.tag i q.address]
    let faulted : Outputs := { pieces := [], shifted := [], responses :=
      [{ requester := q.requester, tag := q.tag, outcome := .fault, data := [] }] }
    (∀ (p : SlotId) (w : SlotRecord), q.partner = some p → s.slot p = .issued w →
      exec (.completion i o data) s = .next
        { recorded with slots := Table.put s.slots i (.doneWaiting (match o with
            | .ok => { q with
                outcome := .ok
                readData := if q.kind = .read
                  then some (data.take q.length ++ List.replicate (q.length - data.length) 0) else none }
            | .error => { q with outcome := .error, readData := none })) }) ∧
    (∀ (p : SlotId) (w : SlotRecord), q.partner = some p → s.slot p = .abandoned w →
      exec (.completion i o data) s = .next
        { recorded with
          slots := Table.put (Table.put s.slots p (.abandoned { w with partner := none })) i .free
          out := faulted }) ∧
    (q.partner = none → exec (.completion i o data) s = .next
      { recorded with slots := Table.put s.slots i .free, out := faulted })

/-- The later completion of a split transaction gives its one response: DONE with the FIRST piece's data before the
SECOND's when both pieces are OK, FAULT without data when either ended in ERROR; both slots go FREE. -/
def Obligations.PairCompletionAssemblesTheResponse : Prop :=
  ∀ (s : State) (i p : SlotId) (q w : SlotRecord) (data : List Beat), s.settled = true → PairLaw s →
    s.slot i = .issued q → q.role ≠ .whole → q.partner = some p → s.slot p = .doneWaiting w →
    let freed := Table.put (Table.put s.slots i .free) p .free
    let mine := data.take q.length ++ List.replicate (q.length - data.length) 0
    let theirs := w.readData.getD []
    (w.outcome = .ok → q.kind = .read → exec (.completion i .ok data) s = .next
      { s.clearOut with
        slots := freed
        out := { pieces := [], shifted := [], responses :=
          [{ requester := q.requester, tag := q.tag, outcome := .done,
             data := if q.role = .first then mine ++ theirs else theirs ++ mine }] } }) ∧
    (w.outcome = .ok → q.kind = .write → exec (.completion i .ok data) s = .next
      { s.clearOut with
        slots := freed
        out := { pieces := [], shifted := [], responses :=
          [{ requester := q.requester, tag := q.tag, outcome := .done, data := [] }] } }) ∧
    (w.outcome ≠ .ok → exec (.completion i .ok data) s = .next
      { s.clearOut with
        slots := freed
        out := { pieces := [], shifted := [], responses :=
          [{ requester := q.requester, tag := q.tag, outcome := .fault, data := [] }] } }) ∧
    exec (.completion i .error data) s = .next
      { s.withIncidents [.memoryError q.requester q.tag i q.address] with
        slots := freed
        out := { pieces := [], shifted := [], responses :=
          [{ requester := q.requester, tag := q.tag, outcome := .fault, data := [] }] } }

/-- A completion for an ABANDONED slot frees it with LATE_COMPLETION and its partner's record loses the reference; one
for a FREE or DONE_WAITING slot changes nothing but the log, with STRAY_COMPLETION; neither gives a response. -/
def Obligations.LateAndStrayCompletions : Prop :=
  ∀ (s : State) (i : SlotId) (o : CompletionOutcome) (data : List Beat), s.settled = true →
    (∀ q : SlotRecord, s.slot i = .abandoned q → ∃ t : State, exec (.completion i o data) s = .next t ∧
      t = { s.clearOut.withIncidents [.lateCompletion i] with slots := t.slots } ∧
      ∀ j : SlotId,
        let lost (w : SlotRecord) : SlotRecord :=
          { w with partner := if w.partner = some i then none else w.partner }
        t.slot j = if j = i then .free else match s.slot j with
          | .free => .free
          | .issued w => .issued (lost w)
          | .doneWaiting w => .doneWaiting (lost w)
          | .abandoned w => .abandoned (lost w)) ∧
    (s.slot i = .free → exec (.completion i o data) s =
      .next (s.clearOut.withIncidents [.strayCompletion i])) ∧
    (∀ q : SlotRecord, s.slot i = .doneWaiting q → exec (.completion i o data) s =
      .next (s.clearOut.withIncidents [.strayCompletion i]))

/-- COMPLETION_TIMEOUT after a tick: every ISSUED slot at or above a limit that is not 0 goes ABANDONED, in ascending
order COMPLETION_TIMEOUT is recorded for each, QUARANTINE is latched, and a FAULT is given for each transaction whose last
piece ends so. The limit is the one that stood at the tick, which the model keeps while the comparison is still to be taken
(log entry 4). -/
def Obligations.TimeoutsAbandonOverdueSlots : Prop :=
  ∀ (s : State) (limit : Nat), PairLaw s → s.holdClosed = true → s.timeoutCheck = some limit →
    let late := (List.finRange 16).filter fun i => (s.slot i).overdue limit
    ∃ t : State, exec .completionTimeout s = .next t ∧
      t = { s with slots := t.slots, log := t.log, latched := t.latched, timeoutCheck := none, out :=
              { responses := s.faultsOf fun i => (s.slot i).overdue limit, pieces := [], shifted := [] } } ∧
      Abandons s t (fun i => (s.slot i).overdue limit) ∧
      t.log = s.log.handed s.timer.windowNumber (late.filterMap fun i =>
        (s.slot i).record?.map fun q => .completionTimeout q.requester q.tag i) ∧
      t.latched = { s.latched with
        quarantine := s.latched.quarantine || !late.isEmpty
        logLost := s.latched.logLost || (!late.isEmpty && decide (32 < s.log.records.length + late.length)) }

/-! ## The management link -/

/-- ANSWER_READ shifts out a fill byte during the marker, then the stored answer or a NO_ANSWER frame, then fill bytes,
as many as the host clocks, and leaves the store empty. -/
def Obligations.AnswerReadShiftsAndConsumes : Prop :=
  ∀ (s : State) (n : Nat), s.linkReady = true →
    let frame (seq code status : Byte) (results : List Byte) : List Byte :=
      let covered := [seq, code, status, BitVec.ofNat 8 results.length] ++ results
      covered ++ crcBytes covered
    (∀ a : Answer, s.link.answer = some a → exec (.answerRead n) s = .next
      { s with
        link := { s.link with answer := none, select := .released }
        out := { responses := [], pieces := [], shifted :=
          0xFF :: (frame a.seq a.code a.status.code a.results ++ List.replicate n 0xFF).take n } }) ∧
    (s.link.answer = none → exec (.answerRead n) s = .next
      { s with
        link := { s.link with select := .released }
        out := { responses := [], pieces := [], shifted :=
          0xFF :: (frame s.link.lastSeq s.link.lastCode 0x22 [] ++ List.replicate n 0xFF).take n } })

/-- GET_IDENTITY, READ_STATUS and READ_SLOTS are answered DONE in every state and change nothing but the answer store: the
identity, with the revision byte a free value (log entry 1), the 20 status bytes, and the 16 slot records, each as the
15 bytes of its layout. -/
def Obligations.IdentityStatusAndSlotsAreRead : Prop :=
  ∀ (s : State) (seq : Byte), s.linkReady = true →
    let slots (p : Slot → Bool) : Byte := BitVec.ofNat 8 ((List.finRange 16).countP fun i => p (s.slot i))
    let set (causes : List Bool) : Byte := BitVec.ofNat 8 (causes.foldr (fun c n => c.toNat + 2 * n) 0)
    exec (.getIdentity seq) s = .next (s.clearOut.withAnswer seq 0x01 6 .done
      [0x57, 0x4C, 0x01, 0xB0, Config.revision, 32, 16, 48, 8, 16, 32]) ∧
    exec (.readStatus seq) s = .next (s.clearOut.withAnswer seq 0x02 6 .done s.statusBytes) ∧
    s.statusBytes =
      ([if s.active.global.mode = .regulating then 1 else 0,
       match s.commit.state with
        | .idle => 0
        | .armed _ => 1
        | .draining _ _ => 2,
       match s.commit.outcome with
        | .none => 0
        | .applied => 1
        | .cancelled => 2
        | .abandoned => 3
        | .cancelledByRestart => 4] : List Byte) ++
      twoBytes s.commit.outcomeWindow.toNat ++ [if s.restart = .idle then 0 else 1] ++
      twoBytes s.timer.windowNumber.toNat ++ twoBytes s.timer.counter ++
      [BitVec.ofNat 8 s.hold.length, BitVec.ofNat 8 s.issueQueue.length, slots Slot.isFree, slots Slot.isIssued,
       slots Slot.isDoneWaiting, slots Slot.isAbandoned,
       set [s.latched.isolation, s.latched.quarantine, s.latched.commitDone, s.latched.commitFailed,
         s.latched.restartDone, s.latched.logLost, !s.log.records.isEmpty],
       set [s.mask.isolation, s.mask.quarantine, s.mask.commitDone, s.mask.commitFailed, s.mask.restartDone,
         s.mask.logLost, s.mask.logPending],
       BitVec.ofNat 8 s.log.records.length, BitVec.ofNat 8 s.log.lost] ∧
    ∃ bytes : List Byte, exec (.readSlots seq) s = .next (s.clearOut.withAnswer seq 0x41 6 .done bytes) ∧
      bytes.length = 240 ∧ ∀ i : SlotId, (bytes.drop (15 * i.val)).take 15 = (s.slot i).layout

/-- The configuration reads: BAD_INDEX before BAD_VALUE, then DONE with the block of the copy named, byte by byte, and the
16 bytes of dynamic state with the active copy alone; nothing changes but the answer store. -/
def Obligations.ConfigurationIsRead : Prop :=
  ∀ (s : State) (seq index copy : Byte), s.linkReady = true →
    let balance (b : Int) : List Byte :=
      [BitVec.ofInt 8 (b / 16777216), BitVec.ofInt 8 (b / 65536), BitVec.ofInt 8 (b / 256), BitVec.ofInt 8 b]
    let one (code : Byte) (p : Nat) (st : Status) (results : List Byte) :=
      Host.Outcome.next (φ := Fault) (ρ := Refusal) (s.clearOut.withAnswer seq code (6 + p) st results)
    exec (.readGlobal seq 0) s = one 0x10 1 .done s.staged.global.layout ∧
    exec (.readGlobal seq 1) s = one 0x10 1 .done s.active.global.layout ∧
    (1 < copy.toNat → exec (.readGlobal seq copy) s = one 0x10 1 .badValue []) ∧
    (∀ r : RequesterId, index.toNat = r.val →
      exec (.readRequester seq index 0) s = one 0x12 2 .done (s.staged.requesters[r]).layout ∧
      exec (.readRequester seq index 1) s = one 0x12 2 .done
        ((s.active.requesters[r]).layout ++ balance (s.account r).balance ++
          [match (s.restraint r).standing with
            | .free => 0
            | .curbed => 1
            | .isolated => 2,
           BitVec.ofNat 8 (s.restraint r).strikes, if (s.restraint r).curbHit then 1 else 0,
           BitVec.ofNat 8 (s.hold.countP fun e => decide (e.txn.requester = r))] ++
          twoBytes (s.account r).beatsThis ++ twoBytes (s.account r).beatsLast ++
          twoBytes (s.account r).retryCount.toNat ++ twoBytes (s.account r).deniedCount.toNat) ∧
      (1 < copy.toNat → exec (.readRequester seq index copy) s = one 0x12 2 .badValue [])) ∧
    (31 < index.toNat → exec (.readRequester seq index copy) s = one 0x12 2 .badIndex []) ∧
    (∀ n : RangeId, index.toNat = n.val →
      exec (.readRange seq index 0) s = one 0x14 2 .done (s.staged.ranges[n]).layout ∧
      exec (.readRange seq index 1) s = one 0x14 2 .done (s.active.ranges[n]).layout ∧
      (1 < copy.toNat → exec (.readRange seq index copy) s = one 0x14 2 .badValue [])) ∧
    (15 < index.toNat → exec (.readRange seq index copy) s = one 0x14 2 .badIndex [])

/-- READ_HOLD answers with the requester's held count and one record for each of its entries in list order, for a
present or an absent requester; a number above 31 is refused with BAD_INDEX; nothing changes. -/
def Obligations.HeldEntriesAreRead : Prop :=
  ∀ (s : State) (seq index : Byte), s.linkReady = true →
    (∀ r : RequesterId, index.toNat = r.val →
      let own := s.hold.filter fun e => decide (e.txn.requester = r)
      exec (.readHold seq index) s = .next (s.clearOut.withAnswer seq 0x40 7 .done
        (BitVec.ofNat 8 own.length :: own.flatMap fun e =>
          [e.txn.tag, if e.txn.kind = .read then 1 else 2, BitVec.ofNat 8 e.txn.length.val,
           BitVec.ofNat 8 e.age]))) ∧
    (31 < index.toNat → exec (.readHold seq index) s = .next (s.clearOut.withAnswer seq 0x40 7 .badIndex []))

/-- The staged writes: BAD_INDEX, then FROZEN while a commit is pending, then BAD_VALUE with nothing written, then the
whole part replaced and DONE; the active copy and all else stay. -/
def Obligations.StagedWritesReplaceWholeParts : Prop :=
  ∀ (s : State) (seq index : Byte) (block : List Byte), s.linkReady = true →
    (block.length = 13 →
      (s.commit.state ≠ .idle → exec (.writeGlobal seq block) s =
        .next (s.clearOut.withAnswer seq 0x11 19 .frozen [])) ∧
      (s.commit.state = .idle → globalOfBytes block = none → exec (.writeGlobal seq block) s =
        .next (s.clearOut.withAnswer seq 0x11 19 .badValue [])) ∧
      ∀ g : GlobalBlock, s.commit.state = .idle → globalOfBytes block = some g →
        exec (.writeGlobal seq block) s = .next { s.clearOut.withAnswer seq 0x11 19 .done [] with
          staged := { s.staged with global := g } }) ∧
    (block.length = 10 →
      (31 < index.toNat → exec (.writeRequester seq index block) s =
        .next (s.clearOut.withAnswer seq 0x13 17 .badIndex [])) ∧
      ∀ r : RequesterId, index.toNat = r.val →
        (s.commit.state ≠ .idle → exec (.writeRequester seq index block) s =
          .next (s.clearOut.withAnswer seq 0x13 17 .frozen [])) ∧
        (s.commit.state = .idle → requesterEntryOfBytes block = none → exec (.writeRequester seq index block) s =
          .next (s.clearOut.withAnswer seq 0x13 17 .badValue [])) ∧
        ∀ e : RequesterEntry, s.commit.state = .idle → requesterEntryOfBytes block = some e →
          exec (.writeRequester seq index block) s = .next { s.clearOut.withAnswer seq 0x13 17 .done [] with
            staged := { s.staged with requesters := Table.put s.staged.requesters r e } }) ∧
    (block.length = 14 →
      (15 < index.toNat → exec (.writeRange seq index block) s =
        .next (s.clearOut.withAnswer seq 0x15 21 .badIndex [])) ∧
      ∀ n : RangeId, index.toNat = n.val →
        (s.commit.state ≠ .idle → exec (.writeRange seq index block) s =
          .next (s.clearOut.withAnswer seq 0x15 21 .frozen [])) ∧
        (s.commit.state = .idle → rangeEntryOfBytes block = none → exec (.writeRange seq index block) s =
          .next (s.clearOut.withAnswer seq 0x15 21 .badValue [])) ∧
        ∀ e : RangeEntry, s.commit.state = .idle → rangeEntryOfBytes block = some e →
          exec (.writeRange seq index block) s = .next { s.clearOut.withAnswer seq 0x15 21 .done [] with
            staged := { s.staged with ranges := Table.put s.staged.ranges n e } })

/-- Which blocks a write accepts: exactly those laid out as a block whose fields are all in range. A block that is accepted
is read back byte for byte as it was written, since the reads answer with that layout. -/
def Obligations.WrittenBlocksReadBackAsWritten : Prop :=
  (∀ (b : List Byte) (g : GlobalBlock), globalOfBytes b = some g ↔ g.layout = b ∧ g.inRange = true) ∧
  (∀ (b : List Byte) (e : RequesterEntry),
    requesterEntryOfBytes b = some e ↔ e.layout = b ∧ e.inRange = true) ∧
  ∀ (b : List Byte) (e : RangeEntry), rangeEntryOfBytes b = some e ↔ e.layout = b ∧ e.inRange = true

/-- COMMIT is decided in its order: BUSY, BAD_VALUE, BAD_CONFIG naming the first item that fails, else ARMED and
ACCEPTED. -/
def Obligations.CommitIsDecidedInOrder : Prop :=
  ∀ (s : State) (seq mode : Byte), s.linkReady = true →
    ((s.commit.state ≠ .idle ∨ s.restart ≠ .idle) → exec (.commit seq mode) s =
      .next (s.clearOut.withAnswer seq 0x20 7 .busy [])) ∧
    (s.commit.state = .idle → s.restart = .idle →
      (1 < mode.toNat → exec (.commit seq mode) s = .next (s.clearOut.withAnswer seq 0x20 7 .badValue [])) ∧
      (mode.toNat ≤ 1 →
        (s.staged.global.commitOk = false → exec (.commit seq mode) s =
          .next (s.clearOut.withAnswer seq 0x20 7 .badConfig [0, 0])) ∧
        (s.staged.global.commitOk = true → ∀ r : RequesterId, (s.staged.requesters[r]).commitOk = false →
          (∀ q : RequesterId, q < r → (s.staged.requesters[q]).commitOk = true) → exec (.commit seq mode) s =
          .next (s.clearOut.withAnswer seq 0x20 7 .badConfig [1, BitVec.ofNat 8 r.val])) ∧
        (s.staged.global.commitOk = true → (∀ q : RequesterId, (s.staged.requesters[q]).commitOk = true) →
          ∀ n : RangeId, (s.staged.ranges[n]).commitOk = false →
          (∀ m : RangeId, m < n → (s.staged.ranges[m]).commitOk = true) → exec (.commit seq mode) s =
          .next (s.clearOut.withAnswer seq 0x20 7 .badConfig [2, BitVec.ofNat 8 n.val])) ∧
        (s.staged.commitOk → exec (.commit seq mode) s =
          .next { s.clearOut.withAnswer seq 0x20 7 .accepted [] with
            commit := { s.commit with
              state := .armed (if mode.toNat = 0 then .boundary else .drained) } })))

/-- CANCEL_COMMIT ends an ARMED or DRAINING commit with outcome CANCELLED and the pause cleared, has no effect when
IDLE, and is answered DONE in every state; COPY_ACTIVE_TO_STAGED discards the staged edits when IDLE and is FROZEN
while a commit is ARMED or DRAINING. -/
def Obligations.CancelAndCopyActByCommitState : Prop :=
  ∀ (s : State) (seq : Byte), s.linkReady = true →
    (s.commit.state = .idle →
      exec (.cancelCommit seq) s = .next (s.clearOut.withAnswer seq 0x21 6 .done []) ∧
      exec (.copyActiveToStaged seq) s =
        .next { s.clearOut.withAnswer seq 0x16 6 .done [] with staged := s.active }) ∧
    (s.commit.state ≠ .idle →
      exec (.cancelCommit seq) s = .next
        { s.clearOut.withAnswer seq 0x21 6 .done [] with
          commit := { state := .idle, pause := false, outcome := .cancelled,
                      outcomeWindow := s.timer.windowNumber } } ∧
      exec (.copyActiveToStaged seq) s = .next (s.clearOut.withAnswer seq 0x16 6 .frozen []))

/-- RESTART is BUSY while one is DRAINING; else it cancels a pending commit, flushes the hold queue with RETRY in list
order, captures the active drain limit and starts its drain, and when the drain is not yet complete it stays there. -/
def Obligations.RestartStartsItsDrain : Prop :=
  ∀ (s : State) (seq : Byte), s.linkReady = true →
    (s.restart ≠ .idle → exec (.restart seq) s = .next (s.clearOut.withAnswer seq 0x22 6 .busy [])) ∧
    (s.restart = .idle → (s.issueQueue ≠ [] ∨ ∃ (i : SlotId) (q : SlotRecord), s.slot i = .issued q) →
      ∃ t : State, exec (.restart seq) s = .next t ∧
        t = { s.withAnswer seq 0x22 6 .accepted [] with
              commit := t.commit, restart := .draining 0 s.active.global.drainLimit, hold := [],
              accounts := t.accounts, out := t.out } ∧
        t.commit = (if s.commit.state = .idle then s.commit else
          { state := .idle, pause := false, outcome := .cancelledByRestart,
            outcomeWindow := s.timer.windowNumber }) ∧
        t.out = { responses := answersTo s.hold .retry, pieces := [], shifted := List.replicate 6 0xFF } ∧
        ∀ r : RequesterId, t.account r =
          if (s.entry r).present then
            { s.account r with retryCount := (s.account r).retryCount + BitVec.ofNat 16 (s.heldCount r) }
          else s.account r)

/-- A RESTART whose drain is already complete at its start ends in the same event, after the flush: a pending commit is
cancelled as by any RESTART, every held entry is answered RETRY in list order, and the restart's end follows; the window
number of the cancellation is the one before that end. -/
def Obligations.RestartWithNothingInFlightEndsAtOnce : Prop :=
  ∀ (s : State) (seq : Byte), s.linkReady = true → s.restart = .idle → s.issueQueue = [] →
    (∀ (i : SlotId) (q : SlotRecord), s.slot i ≠ .issued q) →
    ∃ t : State, exec (.restart seq) s = .next t ∧
      t = { s.withAnswer seq 0x22 6 .accepted [] with
            commit := t.commit, hold := [], accounts := t.accounts, restraints := t.restraints,
            timer := { counter := 0, elapsed := 0, windowNumber := 0 },
            latched := { s.latched with restartDone := true }, out := t.out } ∧
      t.commit = (if s.commit.state = .idle then s.commit else
        { state := .idle, pause := false, outcome := .cancelledByRestart,
          outcomeWindow := s.timer.windowNumber }) ∧
      t.out = { responses := answersTo s.hold .retry, pieces := [], shifted := List.replicate 6 0xFF } ∧
      ∀ r : RequesterId, t.restraint r = { standing := .free, strikes := 0, curbHit := false } ∧
        t.account r = { balance := if (s.entry r).present = true ∧ (s.entry r).regulated = true
                          then ((s.entry r).allowance : Int) else 0
                        beatsThis := 0, beatsLast := 0, retryCount := 0, deniedCount := 0 }

/-- RECOVER_DOWNSTREAM frees every ABANDONED slot, a record that named one loses its reference, every other slot stays,
and the answer carries the number freed; no response, no incident, no alert. -/
def Obligations.RecoverDownstreamFreesAbandonedSlots : Prop :=
  ∀ (s : State) (seq : Byte), s.linkReady = true →
    let count := (List.finRange 16).countP fun i => (s.slot i).isAbandoned
    ∃ t : State, exec (.recoverDownstream seq) s = .next t ∧
      t = { s.clearOut.withAnswer seq 0x23 6 .done [BitVec.ofNat 8 count] with slots := t.slots } ∧
      ∀ i : SlotId,
        let lost (q : SlotRecord) : SlotRecord :=
          { q with partner := if (q.partner.map fun p => (s.slot p).isAbandoned).getD false then none
                              else q.partner }
        t.slot i = match s.slot i with
          | .free => .free
          | .abandoned _ => .free
          | .issued q => .issued (lost q)
          | .doneWaiting q => .doneWaiting (lost q)

/-- ISOLATE: BAD_INDEX above 31, NOT_PRESENT for an absent requester, else the requester becomes ISOLATED whatever its
state, its held entries are flushed with DENIED, MANAGED_ISOLATE is recorded and ISOLATION latched. -/
def Obligations.IsolateCommandIsolatesPresentRequesters : Prop :=
  ∀ (s : State) (seq index : Byte), s.linkReady = true →
    (31 < index.toNat → exec (.isolate seq index) s = .next (s.clearOut.withAnswer seq 0x30 7 .badIndex [])) ∧
    ∀ r : RequesterId, index.toNat = r.val →
      ((s.entry r).present = false → exec (.isolate seq index) s =
        .next (s.clearOut.withAnswer seq 0x30 7 .notPresent [])) ∧
      ((s.entry r).present = true →
        let own := s.hold.filter fun e => decide (e.txn.requester = r)
        ∃ t : State, exec (.isolate seq index) s = .next t ∧
          t = { (s.withIncidents [.managedIsolate r]).withAnswer seq 0x30 7 .done [] with
                hold := t.hold, accounts := t.accounts, restraints := t.restraints, latched := t.latched,
                out := t.out } ∧
          t.hold = (s.hold.filter fun e => decide (e.txn.requester ≠ r)) ∧
          t.restraints = Table.put s.restraints r { s.restraint r with standing := .isolated } ∧
          t.latched = { s.latched with
            isolation := true
            logLost := s.latched.logLost || decide (32 ≤ s.log.records.length) } ∧
          t.out = { responses := answersTo own .denied, pieces := [], shifted := List.replicate 7 0xFF } ∧
          ∀ q : RequesterId, t.account q =
            if q = r then { s.account q with
              deniedCount := (s.account q).deniedCount + BitVec.ofNat 16 own.length } else s.account q)

/-- RELEASE: BAD_INDEX above 31, NOT_PRESENT for an absent requester, a CURBED or ISOLATED one becomes FREE with strike
count 0 and curb-hit clear, a FREE one keeps its record. -/
def Obligations.ReleaseCommandFreesRestrainedRequesters : Prop :=
  ∀ (s : State) (seq index : Byte), s.linkReady = true →
    (31 < index.toNat → exec (.release seq index) s = .next (s.clearOut.withAnswer seq 0x31 7 .badIndex [])) ∧
    ∀ r : RequesterId, index.toNat = r.val →
      ((s.entry r).present = false → exec (.release seq index) s =
        .next (s.clearOut.withAnswer seq 0x31 7 .notPresent [])) ∧
      ((s.entry r).present = true → (s.restraint r).standing = .free → exec (.release seq index) s =
        .next (s.clearOut.withAnswer seq 0x31 7 .done [])) ∧
      ((s.entry r).present = true → (s.restraint r).standing ≠ .free → exec (.release seq index) s =
        .next { s.clearOut.withAnswer seq 0x31 7 .done [] with
          restraints := Table.put s.restraints r { standing := .free, strikes := 0, curbHit := false } })

/-- READ_LOG removes the oldest records up to its count, answers with them, each as the 16 bytes of its layout, the number
remaining and the lost count, and clears the lost count; a count of 0 or above 4 is refused with BAD_VALUE and removes nothing. -/
def Obligations.ReadLogRemovesOldestRecords : Prop :=
  ∀ (s : State) (seq count : Byte), s.linkReady = true →
    (count.toNat = 0 ∨ 4 < count.toNat → exec (.readLog seq count) s =
      .next (s.clearOut.withAnswer seq 0x42 7 .badValue [])) ∧
    (1 ≤ count.toNat → count.toNat ≤ 4 → exec (.readLog seq count) s =
      .next { s.clearOut.withAnswer seq 0x42 7 .done
          ([BitVec.ofNat 8 (s.log.records.take count.toNat).length] ++
            (s.log.records.take count.toNat).flatMap IncidentRecord.layout ++
            [BitVec.ofNat 8 (s.log.records.drop count.toNat).length, BitVec.ofNat 8 s.log.lost]) with
        log := { records := s.log.records.drop count.toNat, nextSeq := s.log.nextSeq, lost := 0 } })

/-- SET_ALERT_MASK replaces the whole mask; ACK_ALERT clears the latched causes in its set, leaves LOG_PENDING to the
log, and answers with the causes pending afterwards; a set with bit 7 is refused with BAD_VALUE. -/
def Obligations.AlertMaskAndAcknowledgement : Prop :=
  ∀ (s : State) (seq set : Byte), s.linkReady = true →
    (set.getLsbD 7 = true →
      exec (.setAlertMask seq set) s = .next (s.clearOut.withAnswer seq 0x50 7 .badValue []) ∧
      exec (.ackAlert seq set) s = .next (s.clearOut.withAnswer seq 0x51 7 .badValue [])) ∧
    (set.getLsbD 7 = false →
      (∃ t : State, exec (.setAlertMask seq set) s = .next t ∧
        t = { s.clearOut.withAnswer seq 0x50 7 .done [] with mask := t.mask } ∧ t.mask.byte = set) ∧
      ∃ t : State, exec (.ackAlert seq set) s = .next t ∧
        t = { s.clearOut.withAnswer seq 0x51 7 .done [t.pendingCauses.byte] with latched := t.latched } ∧
        t.latched =
          { isolation := s.latched.isolation && !set.getLsbD 0
            quarantine := s.latched.quarantine && !set.getLsbD 1
            commitDone := s.latched.commitDone && !set.getLsbD 2
            commitFailed := s.latched.commitFailed && !set.getLsbD 3
            restartDone := s.latched.restartDone && !set.getLsbD 4
            logLost := s.latched.logLost && !set.getLsbD 5 } ∧
        t.pendingCauses.logPending = s.pendingCauses.logPending)

/-- A COMMAND transfer whose frame fails a check is refused with FRAME_ERROR or UNKNOWN_COMMAND, echoes the sequence
number and command code as received (0 where the frame did not reach), and changes nothing but the answer store. A
transfer whose first byte is neither marker, or with no whole byte, changes nothing. A transfer within which a full reset
was taken is ignored whatever it carries: fill bytes for the rest of its select period, and nothing is taken or consumed.
That this row with the ANSWER_READ marker is an ANSWER_READ is the model's choice (log entry 13), and so are that the
M-link row after such a reset stands for the rest of that select period (log entry 9) and that the last sequence number and
command code become 0 where the frame did not reach their bytes (log entry 17). -/
def Obligations.RefusedAndIgnoredTransfers : Prop :=
  let ended (s : State) (bytes : Nat) : State :=
    { s with
      link := { s.link with select := .released }
      out := { responses := [], pieces := [], shifted := List.replicate bytes 0xFF } }
  (∀ (s : State) (frame : List Byte), s.linkReady = true →
    (checkFrame frame = .frameError → exec (.commandFrameRefused (0x5A :: frame)) s =
      .next (s.clearOut.withAnswer (frame.getD 0 0) (frame.getD 1 0) (1 + frame.length) .frameError [])) ∧
    (checkFrame frame = .unknownCommand → exec (.commandFrameRefused (0x5A :: frame)) s =
      .next (s.clearOut.withAnswer (frame.getD 0 0) (frame.getD 1 0) (1 + frame.length) .unknownCommand [])) ∧
    (∀ marker : Byte, marker ≠ 0x5A → marker ≠ 0xA5 → exec (.commandFrameRefused (marker :: frame)) s =
      .next (ended s (1 + frame.length))) ∧
    exec (.commandFrameRefused []) s = .next (ended s 0) ∧
    exec (.commandFrameRefused (0xA5 :: frame)) s = exec (.answerRead frame.length) s) ∧
  ∀ s : State, s.settled = true → s.link.select = .ignored →
    (∀ n : Nat, exec (.answerRead n) s = .next (ended s (1 + n))) ∧
    (∀ transfer : List Byte, exec (.commandFrameRefused transfer) s = .next (ended s transfer.length)) ∧
    ∀ (c : Instr) (frame : List Byte), frameOf c = some frame → exec c s = .next (ended s (1 + frame.length))

/-- Which frames fail: an inconsistent length, then a wrong CRC, then a code that is not one of the 20, then a
parameter length that differs from the command's own. -/
def Obligations.FrameChecksInTheirOrder : Prop :=
  ∀ frame : List Byte,
    ((64 < frame.length ∨ frame.length < 5 ∨ 59 < (frame.getD 2 0).toNat ∨
        frame.length ≠ 5 + (frame.getD 2 0).toNat) → checkFrame frame = .frameError) ∧
    (∀ (covered : List Byte) (high low : Byte), frame = covered ++ [high, low] → 3 ≤ covered.length →
      covered.length = 3 + (frame.getD 2 0).toNat → frame.length ≤ 64 →
      (high.toNat * 256 + low.toNat ≠ (crc16 covered).toNat → checkFrame frame = .frameError) ∧
      (high.toNat * 256 + low.toNat = (crc16 covered).toNat →
        (parameterLength (frame.getD 1 0) = none → checkFrame frame = .unknownCommand) ∧
        (∀ p : Nat, parameterLength (frame.getD 1 0) = some p →
          (p ≠ (frame.getD 2 0).toNat → checkFrame frame = .frameError) ∧
          (p = (frame.getD 2 0).toNat → ∃ c : Instr, checkFrame frame = .command c))))

/-- Frame and command agree: the frame of every well-formed management command passes the checks and carries that
command again, and the transfer that brings it has that command's effect. That a passing frame given to the row
COMMAND_FRAME_REFUSED is executed is the model's choice (log entry 13). -/
def Obligations.CommandFramesCarryTheirCommand : Prop :=
  ∀ (c : Instr) (frame : List Byte) (s : State), c.wf = true → frameOf c = some frame →
    checkFrame frame = .command c ∧ exec (.commandFrameRefused (0x5A :: frame)) s = exec c s

/-! ## The log and the alert line -/

/-- An incident handed to a log with room takes the next sequence number and the current window number; one handed to a
full log leaves the records and the next number, raises the lost count, saturating at 255, and latches LOG_LOST. -/
def Obligations.IncidentIsRecordedOrDropped : Prop :=
  ∀ (s : State) (i : Incident),
    (s.log.records.length < 32 → s.record i =
      { s with log := { records := s.log.records ++
                          [{ seq := s.log.nextSeq, window := s.timer.windowNumber, incident := i }]
                        nextSeq := s.log.nextSeq + 1, lost := s.log.lost } }) ∧
    (32 ≤ s.log.records.length → s.record i =
      { s with log := { s.log with lost := min (s.log.lost + 1) 255 }
               latched := { s.latched with logLost := true } })

/-- ALERT is asserted while at least one cause is both pending and enabled, and inactive otherwise, as after a full
reset; LOG_PENDING is pending exactly while the log holds a record. -/
def Obligations.AlertFollowsCausesAndMask : Prop :=
  State.reset.alertLine = false ∧ ∀ s : State, s.alertLine = true ↔
    (s.latched.isolation = true ∧ s.mask.isolation = true) ∨
    (s.latched.quarantine = true ∧ s.mask.quarantine = true) ∨
    (s.latched.commitDone = true ∧ s.mask.commitDone = true) ∨
    (s.latched.commitFailed = true ∧ s.mask.commitFailed = true) ∨
    (s.latched.restartDone = true ∧ s.mask.restartDone = true) ∨
    (s.latched.logLost = true ∧ s.mask.logLost = true) ∨
    (s.log.records ≠ [] ∧ s.mask.logPending = true)

/-! ## Invariants of every step -/

/-- The laws hold right after a full reset. -/
def Obligations.LawsHoldAtReset : Prop :=
  CapacityLaw State.reset ∧ LogLaw State.reset ∧ ConfigLaw State.reset ∧ TimerLaw State.reset ∧
    QueuedWellFormed State.reset ∧ BalanceLaw State.reset ∧ SpendLaw State.reset ∧ HeldStandingLaw State.reset ∧
    StrikeLaw State.reset ∧ DrainLaw State.reset ∧ PairLaw State.reset ∧ LiveLaw State.reset

/-- The hold queue never holds more than 48 entries, the issue queue 8 and the log 32 records, and the sequence numbers
of the records in the log stay consecutive. -/
def Obligations.StepKeepsCapacitiesAndNumbering : Prop :=
  ∀ s t : State, CapacityLaw s → LogLaw s → step s = .next t → CapacityLaw t ∧ LogLaw t

/-- The active copy always satisfies every check of COMMIT, and so does the staged copy while a commit is pending; with
the window timer's law. That the counter may stand at the period, from a TICK up to its window end, is the model's (log
entry 4). Only a TICK brings it there, and after every step but TICK and the four that may be taken before that window end
the counter is below the period, as section 1.1 has it. -/
def Obligations.StepKeepsConfigurationAndTimer : Prop :=
  ∀ s t : State, ConfigLaw s → TimerLaw s → step s = .next t →
    ConfigLaw t ∧ TimerLaw t ∧
    ∀ (c : Instr) (q : List Instr), s.pending = c :: q → c ≠ .tick →
      (s.timer.counter < s.active.global.period → t.timer.counter < t.active.global.period) ∧
      (c ≠ .holdExpiry → c ≠ .completionTimeout → c ≠ .commitAbandoned → c ≠ .restartForcedEnd →
        t.timer.counter < t.active.global.period)

/-- The balance law and the bound on a window's spending, with what they rest on. -/
def Obligations.StepKeepsBalances : Prop :=
  ∀ s t : State, ConfigLaw s → QueuedWellFormed s → BalanceLaw s → SpendLaw s → step s = .next t →
    QueuedWellFormed t ∧ BalanceLaw t ∧ SpendLaw t

/-- In REGULATING mode nothing is held for an ISOLATED or an absent requester, and every requester that is not ISOLATED
stays below its escalation limit. -/
def Obligations.StepKeepsStandingLaws : Prop :=
  ∀ s t : State, HeldStandingLaw s → StrikeLaw s → step s = .next t → HeldStandingLaw t ∧ StrikeLaw t

/-- The pause accompanies a DRAINING commit, a DRAINING restart has no commit and no held entry beside it, and a forced end is
to be taken only while a restart is DRAINING at its limit. -/
def Obligations.StepKeepsDrainLaw : Prop :=
  ∀ s t : State, DrainLaw s → step s = .next t → DrainLaw t

/-- The law of the outstanding table, and no two live transactions with the same requester and tag. -/
def Obligations.StepKeepsPairsAndLiveTags : Prop :=
  ∀ s t : State, PairLaw s → LiveLaw s → step s = .next t → PairLaw t ∧ LiveLaw t

/-- Every transaction the U-port takes receives exactly one response, unless a full reset comes before it: what a
command takes and what was live is what it answers and what is live after it. -/
def Obligations.EachTransactionIsAnsweredOnce : Prop :=
  ∀ (s t : State) (c : Instr) (r : RequesterId) (g : Tag), PairLaw s → c ≠ .reset → exec c s = .next t →
    s.liveCount r g + takes c t r g = t.liveCount r g + t.answersGiven r g
end

