-- ==== Sys2Proof/Laws/State.lean ====
section
/-! SUPPORT. One lemma per field per named update of State, each true by unfolding alone, so that no later proof unfolds
a record update. -/

namespace Sys2Proof.Machine

/-! ### clearOut -/

section
variable (s : State)

@[simp] theorem State.clearOut_timer : (s.clearOut).timer = s.timer := rfl
@[simp] theorem State.clearOut_staged : (s.clearOut).staged = s.staged := rfl
@[simp] theorem State.clearOut_active : (s.clearOut).active = s.active := rfl
@[simp] theorem State.clearOut_accounts : (s.clearOut).accounts = s.accounts := rfl
@[simp] theorem State.clearOut_restraints : (s.clearOut).restraints = s.restraints := rfl
@[simp] theorem State.clearOut_hold : (s.clearOut).hold = s.hold := rfl
@[simp] theorem State.clearOut_issueQueue : (s.clearOut).issueQueue = s.issueQueue := rfl
@[simp] theorem State.clearOut_slots : (s.clearOut).slots = s.slots := rfl
@[simp] theorem State.clearOut_commit : (s.clearOut).commit = s.commit := rfl
@[simp] theorem State.clearOut_restart : (s.clearOut).restart = s.restart := rfl
@[simp] theorem State.clearOut_log : (s.clearOut).log = s.log := rfl
@[simp] theorem State.clearOut_latched : (s.clearOut).latched = s.latched := rfl
@[simp] theorem State.clearOut_mask : (s.clearOut).mask = s.mask := rfl
@[simp] theorem State.clearOut_link : (s.clearOut).link = s.link := rfl
@[simp] theorem State.clearOut_out : (s.clearOut).out = Outputs.none := rfl
@[simp] theorem State.clearOut_uPort : (s.clearOut).uPort = s.uPort := rfl
@[simp] theorem State.clearOut_timeoutCheck : (s.clearOut).timeoutCheck = s.timeoutCheck := rfl
@[simp] theorem State.clearOut_forcedEnd : (s.clearOut).forcedEnd = s.forcedEnd := rfl
@[simp] theorem State.clearOut_openChoices : (s.clearOut).openChoices = s.openChoices := rfl
@[simp] theorem State.clearOut_pending : (s.clearOut).pending = s.pending := rfl

end

/-! ### setAccount -/

section
variable (s : State) (r : RequesterId) (a : Account)

@[simp] theorem State.setAccount_timer : (s.setAccount r a).timer = s.timer := rfl
@[simp] theorem State.setAccount_staged : (s.setAccount r a).staged = s.staged := rfl
@[simp] theorem State.setAccount_active : (s.setAccount r a).active = s.active := rfl
@[simp] theorem State.setAccount_accounts : (s.setAccount r a).accounts = Table.put s.accounts r a := rfl
@[simp] theorem State.setAccount_restraints : (s.setAccount r a).restraints = s.restraints := rfl
@[simp] theorem State.setAccount_hold : (s.setAccount r a).hold = s.hold := rfl
@[simp] theorem State.setAccount_issueQueue : (s.setAccount r a).issueQueue = s.issueQueue := rfl
@[simp] theorem State.setAccount_slots : (s.setAccount r a).slots = s.slots := rfl
@[simp] theorem State.setAccount_commit : (s.setAccount r a).commit = s.commit := rfl
@[simp] theorem State.setAccount_restart : (s.setAccount r a).restart = s.restart := rfl
@[simp] theorem State.setAccount_log : (s.setAccount r a).log = s.log := rfl
@[simp] theorem State.setAccount_latched : (s.setAccount r a).latched = s.latched := rfl
@[simp] theorem State.setAccount_mask : (s.setAccount r a).mask = s.mask := rfl
@[simp] theorem State.setAccount_link : (s.setAccount r a).link = s.link := rfl
@[simp] theorem State.setAccount_out : (s.setAccount r a).out = s.out := rfl
@[simp] theorem State.setAccount_uPort : (s.setAccount r a).uPort = s.uPort := rfl
@[simp] theorem State.setAccount_timeoutCheck : (s.setAccount r a).timeoutCheck = s.timeoutCheck := rfl
@[simp] theorem State.setAccount_forcedEnd : (s.setAccount r a).forcedEnd = s.forcedEnd := rfl
@[simp] theorem State.setAccount_openChoices : (s.setAccount r a).openChoices = s.openChoices := rfl
@[simp] theorem State.setAccount_pending : (s.setAccount r a).pending = s.pending := rfl

end

/-! ### setRestraint -/

section
variable (s : State) (r : RequesterId) (x : Restraint)

@[simp] theorem State.setRestraint_timer : (s.setRestraint r x).timer = s.timer := rfl
@[simp] theorem State.setRestraint_staged : (s.setRestraint r x).staged = s.staged := rfl
@[simp] theorem State.setRestraint_active : (s.setRestraint r x).active = s.active := rfl
@[simp] theorem State.setRestraint_accounts : (s.setRestraint r x).accounts = s.accounts := rfl
@[simp] theorem State.setRestraint_restraints : (s.setRestraint r x).restraints = Table.put s.restraints r x := rfl
@[simp] theorem State.setRestraint_hold : (s.setRestraint r x).hold = s.hold := rfl
@[simp] theorem State.setRestraint_issueQueue : (s.setRestraint r x).issueQueue = s.issueQueue := rfl
@[simp] theorem State.setRestraint_slots : (s.setRestraint r x).slots = s.slots := rfl
@[simp] theorem State.setRestraint_commit : (s.setRestraint r x).commit = s.commit := rfl
@[simp] theorem State.setRestraint_restart : (s.setRestraint r x).restart = s.restart := rfl
@[simp] theorem State.setRestraint_log : (s.setRestraint r x).log = s.log := rfl
@[simp] theorem State.setRestraint_latched : (s.setRestraint r x).latched = s.latched := rfl
@[simp] theorem State.setRestraint_mask : (s.setRestraint r x).mask = s.mask := rfl
@[simp] theorem State.setRestraint_link : (s.setRestraint r x).link = s.link := rfl
@[simp] theorem State.setRestraint_out : (s.setRestraint r x).out = s.out := rfl
@[simp] theorem State.setRestraint_uPort : (s.setRestraint r x).uPort = s.uPort := rfl
@[simp] theorem State.setRestraint_timeoutCheck : (s.setRestraint r x).timeoutCheck = s.timeoutCheck := rfl
@[simp] theorem State.setRestraint_forcedEnd : (s.setRestraint r x).forcedEnd = s.forcedEnd := rfl
@[simp] theorem State.setRestraint_openChoices : (s.setRestraint r x).openChoices = s.openChoices := rfl
@[simp] theorem State.setRestraint_pending : (s.setRestraint r x).pending = s.pending := rfl

end

/-! ### setSlot -/

section
variable (s : State) (i : SlotId) (x : Slot)

@[simp] theorem State.setSlot_timer : (s.setSlot i x).timer = s.timer := rfl
@[simp] theorem State.setSlot_staged : (s.setSlot i x).staged = s.staged := rfl
@[simp] theorem State.setSlot_active : (s.setSlot i x).active = s.active := rfl
@[simp] theorem State.setSlot_accounts : (s.setSlot i x).accounts = s.accounts := rfl
@[simp] theorem State.setSlot_restraints : (s.setSlot i x).restraints = s.restraints := rfl
@[simp] theorem State.setSlot_hold : (s.setSlot i x).hold = s.hold := rfl
@[simp] theorem State.setSlot_issueQueue : (s.setSlot i x).issueQueue = s.issueQueue := rfl
@[simp] theorem State.setSlot_slots : (s.setSlot i x).slots = Table.put s.slots i x := rfl
@[simp] theorem State.setSlot_commit : (s.setSlot i x).commit = s.commit := rfl
@[simp] theorem State.setSlot_restart : (s.setSlot i x).restart = s.restart := rfl
@[simp] theorem State.setSlot_log : (s.setSlot i x).log = s.log := rfl
@[simp] theorem State.setSlot_latched : (s.setSlot i x).latched = s.latched := rfl
@[simp] theorem State.setSlot_mask : (s.setSlot i x).mask = s.mask := rfl
@[simp] theorem State.setSlot_link : (s.setSlot i x).link = s.link := rfl
@[simp] theorem State.setSlot_out : (s.setSlot i x).out = s.out := rfl
@[simp] theorem State.setSlot_uPort : (s.setSlot i x).uPort = s.uPort := rfl
@[simp] theorem State.setSlot_timeoutCheck : (s.setSlot i x).timeoutCheck = s.timeoutCheck := rfl
@[simp] theorem State.setSlot_forcedEnd : (s.setSlot i x).forcedEnd = s.forcedEnd := rfl
@[simp] theorem State.setSlot_openChoices : (s.setSlot i x).openChoices = s.openChoices := rfl
@[simp] theorem State.setSlot_pending : (s.setSlot i x).pending = s.pending := rfl

end

/-! ### latch -/

section
variable (s : State) (f : LatchedCauses → LatchedCauses)

@[simp] theorem State.latch_timer : (s.latch f).timer = s.timer := rfl
@[simp] theorem State.latch_staged : (s.latch f).staged = s.staged := rfl
@[simp] theorem State.latch_active : (s.latch f).active = s.active := rfl
@[simp] theorem State.latch_accounts : (s.latch f).accounts = s.accounts := rfl
@[simp] theorem State.latch_restraints : (s.latch f).restraints = s.restraints := rfl
@[simp] theorem State.latch_hold : (s.latch f).hold = s.hold := rfl
@[simp] theorem State.latch_issueQueue : (s.latch f).issueQueue = s.issueQueue := rfl
@[simp] theorem State.latch_slots : (s.latch f).slots = s.slots := rfl
@[simp] theorem State.latch_commit : (s.latch f).commit = s.commit := rfl
@[simp] theorem State.latch_restart : (s.latch f).restart = s.restart := rfl
@[simp] theorem State.latch_log : (s.latch f).log = s.log := rfl
@[simp] theorem State.latch_latched : (s.latch f).latched = f s.latched := rfl
@[simp] theorem State.latch_mask : (s.latch f).mask = s.mask := rfl
@[simp] theorem State.latch_link : (s.latch f).link = s.link := rfl
@[simp] theorem State.latch_out : (s.latch f).out = s.out := rfl
@[simp] theorem State.latch_uPort : (s.latch f).uPort = s.uPort := rfl
@[simp] theorem State.latch_timeoutCheck : (s.latch f).timeoutCheck = s.timeoutCheck := rfl
@[simp] theorem State.latch_forcedEnd : (s.latch f).forcedEnd = s.forcedEnd := rfl
@[simp] theorem State.latch_openChoices : (s.latch f).openChoices = s.openChoices := rfl
@[simp] theorem State.latch_pending : (s.latch f).pending = s.pending := rfl

end

/-! ### respond -/

section
variable (s : State) (x : Response)

@[simp] theorem State.respond_timer : (s.respond x).timer = s.timer := rfl
@[simp] theorem State.respond_staged : (s.respond x).staged = s.staged := rfl
@[simp] theorem State.respond_active : (s.respond x).active = s.active := rfl
@[simp] theorem State.respond_accounts : (s.respond x).accounts = s.accounts := rfl
@[simp] theorem State.respond_restraints : (s.respond x).restraints = s.restraints := rfl
@[simp] theorem State.respond_hold : (s.respond x).hold = s.hold := rfl
@[simp] theorem State.respond_issueQueue : (s.respond x).issueQueue = s.issueQueue := rfl
@[simp] theorem State.respond_slots : (s.respond x).slots = s.slots := rfl
@[simp] theorem State.respond_commit : (s.respond x).commit = s.commit := rfl
@[simp] theorem State.respond_restart : (s.respond x).restart = s.restart := rfl
@[simp] theorem State.respond_log : (s.respond x).log = s.log := rfl
@[simp] theorem State.respond_latched : (s.respond x).latched = s.latched := rfl
@[simp] theorem State.respond_mask : (s.respond x).mask = s.mask := rfl
@[simp] theorem State.respond_link : (s.respond x).link = s.link := rfl
@[simp] theorem State.respond_out : (s.respond x).out = { s.out with responses := s.out.responses ++ [x] } := rfl
@[simp] theorem State.respond_uPort : (s.respond x).uPort = s.uPort := rfl
@[simp] theorem State.respond_timeoutCheck : (s.respond x).timeoutCheck = s.timeoutCheck := rfl
@[simp] theorem State.respond_forcedEnd : (s.respond x).forcedEnd = s.forcedEnd := rfl
@[simp] theorem State.respond_openChoices : (s.respond x).openChoices = s.openChoices := rfl
@[simp] theorem State.respond_pending : (s.respond x).pending = s.pending := rfl

end

/-! ### shiftOut -/

section
variable (s : State) (b : List Byte)

@[simp] theorem State.shiftOut_timer : (s.shiftOut b).timer = s.timer := rfl
@[simp] theorem State.shiftOut_staged : (s.shiftOut b).staged = s.staged := rfl
@[simp] theorem State.shiftOut_active : (s.shiftOut b).active = s.active := rfl
@[simp] theorem State.shiftOut_accounts : (s.shiftOut b).accounts = s.accounts := rfl
@[simp] theorem State.shiftOut_restraints : (s.shiftOut b).restraints = s.restraints := rfl
@[simp] theorem State.shiftOut_hold : (s.shiftOut b).hold = s.hold := rfl
@[simp] theorem State.shiftOut_issueQueue : (s.shiftOut b).issueQueue = s.issueQueue := rfl
@[simp] theorem State.shiftOut_slots : (s.shiftOut b).slots = s.slots := rfl
@[simp] theorem State.shiftOut_commit : (s.shiftOut b).commit = s.commit := rfl
@[simp] theorem State.shiftOut_restart : (s.shiftOut b).restart = s.restart := rfl
@[simp] theorem State.shiftOut_log : (s.shiftOut b).log = s.log := rfl
@[simp] theorem State.shiftOut_latched : (s.shiftOut b).latched = s.latched := rfl
@[simp] theorem State.shiftOut_mask : (s.shiftOut b).mask = s.mask := rfl
@[simp] theorem State.shiftOut_link : (s.shiftOut b).link = s.link := rfl
@[simp] theorem State.shiftOut_out : (s.shiftOut b).out = { s.out with shifted := s.out.shifted ++ b } := rfl
@[simp] theorem State.shiftOut_uPort : (s.shiftOut b).uPort = s.uPort := rfl
@[simp] theorem State.shiftOut_timeoutCheck : (s.shiftOut b).timeoutCheck = s.timeoutCheck := rfl
@[simp] theorem State.shiftOut_forcedEnd : (s.shiftOut b).forcedEnd = s.forcedEnd := rfl
@[simp] theorem State.shiftOut_openChoices : (s.shiftOut b).openChoices = s.openChoices := rfl
@[simp] theorem State.shiftOut_pending : (s.shiftOut b).pending = s.pending := rfl

end

/-! ### store -/

section
variable (s : State) (q c : Byte) (st : Status) (b : List Byte)

@[simp] theorem State.store_timer : (s.store q c st b).timer = s.timer := rfl
@[simp] theorem State.store_staged : (s.store q c st b).staged = s.staged := rfl
@[simp] theorem State.store_active : (s.store q c st b).active = s.active := rfl
@[simp] theorem State.store_accounts : (s.store q c st b).accounts = s.accounts := rfl
@[simp] theorem State.store_restraints : (s.store q c st b).restraints = s.restraints := rfl
@[simp] theorem State.store_hold : (s.store q c st b).hold = s.hold := rfl
@[simp] theorem State.store_issueQueue : (s.store q c st b).issueQueue = s.issueQueue := rfl
@[simp] theorem State.store_slots : (s.store q c st b).slots = s.slots := rfl
@[simp] theorem State.store_commit : (s.store q c st b).commit = s.commit := rfl
@[simp] theorem State.store_restart : (s.store q c st b).restart = s.restart := rfl
@[simp] theorem State.store_log : (s.store q c st b).log = s.log := rfl
@[simp] theorem State.store_latched : (s.store q c st b).latched = s.latched := rfl
@[simp] theorem State.store_mask : (s.store q c st b).mask = s.mask := rfl
@[simp] theorem State.store_link :
    (s.store q c st b).link =
      { answer := some { seq := q, code := c, status := st, results := b }, lastSeq := q, lastCode := c, select := .released } := rfl
@[simp] theorem State.store_out : (s.store q c st b).out = s.out := rfl
@[simp] theorem State.store_uPort : (s.store q c st b).uPort = s.uPort := rfl
@[simp] theorem State.store_timeoutCheck : (s.store q c st b).timeoutCheck = s.timeoutCheck := rfl
@[simp] theorem State.store_forcedEnd : (s.store q c st b).forcedEnd = s.forcedEnd := rfl
@[simp] theorem State.store_openChoices : (s.store q c st b).openChoices = s.openChoices := rfl
@[simp] theorem State.store_pending : (s.store q c st b).pending = s.pending := rfl

end

/-! ### withRefusal -/

section
variable (s : State) (x : Transaction) (o : ResponseOutcome)

@[simp] theorem State.withRefusal_timer : (s.withRefusal x o).timer = s.timer := rfl
@[simp] theorem State.withRefusal_staged : (s.withRefusal x o).staged = s.staged := rfl
@[simp] theorem State.withRefusal_active : (s.withRefusal x o).active = s.active := rfl
@[simp] theorem State.withRefusal_restraints : (s.withRefusal x o).restraints = s.restraints := rfl
@[simp] theorem State.withRefusal_hold : (s.withRefusal x o).hold = s.hold := rfl
@[simp] theorem State.withRefusal_issueQueue : (s.withRefusal x o).issueQueue = s.issueQueue := rfl
@[simp] theorem State.withRefusal_slots : (s.withRefusal x o).slots = s.slots := rfl
@[simp] theorem State.withRefusal_commit : (s.withRefusal x o).commit = s.commit := rfl
@[simp] theorem State.withRefusal_restart : (s.withRefusal x o).restart = s.restart := rfl
@[simp] theorem State.withRefusal_log : (s.withRefusal x o).log = s.log := rfl
@[simp] theorem State.withRefusal_latched : (s.withRefusal x o).latched = s.latched := rfl
@[simp] theorem State.withRefusal_mask : (s.withRefusal x o).mask = s.mask := rfl
@[simp] theorem State.withRefusal_link : (s.withRefusal x o).link = s.link := rfl
@[simp] theorem State.withRefusal_uPort : (s.withRefusal x o).uPort = s.uPort := rfl
@[simp] theorem State.withRefusal_timeoutCheck : (s.withRefusal x o).timeoutCheck = s.timeoutCheck := rfl
@[simp] theorem State.withRefusal_forcedEnd : (s.withRefusal x o).forcedEnd = s.forcedEnd := rfl
@[simp] theorem State.withRefusal_openChoices : (s.withRefusal x o).openChoices = s.openChoices := rfl
@[simp] theorem State.withRefusal_pending : (s.withRefusal x o).pending = s.pending := rfl

end

/-! ### withIncidents -/

section
variable (s : State) (is : List Incident)

@[simp] theorem State.withIncidents_timer : (s.withIncidents is).timer = s.timer := rfl
@[simp] theorem State.withIncidents_staged : (s.withIncidents is).staged = s.staged := rfl
@[simp] theorem State.withIncidents_active : (s.withIncidents is).active = s.active := rfl
@[simp] theorem State.withIncidents_accounts : (s.withIncidents is).accounts = s.accounts := rfl
@[simp] theorem State.withIncidents_restraints : (s.withIncidents is).restraints = s.restraints := rfl
@[simp] theorem State.withIncidents_hold : (s.withIncidents is).hold = s.hold := rfl
@[simp] theorem State.withIncidents_issueQueue : (s.withIncidents is).issueQueue = s.issueQueue := rfl
@[simp] theorem State.withIncidents_slots : (s.withIncidents is).slots = s.slots := rfl
@[simp] theorem State.withIncidents_commit : (s.withIncidents is).commit = s.commit := rfl
@[simp] theorem State.withIncidents_restart : (s.withIncidents is).restart = s.restart := rfl
@[simp] theorem State.withIncidents_log : (s.withIncidents is).log = s.log.handed s.timer.windowNumber is := rfl
@[simp] theorem State.withIncidents_latched :
    (s.withIncidents is).latched =
      { s.latched with logLost := s.latched.logLost || s.log.overflows is } := rfl
@[simp] theorem State.withIncidents_mask : (s.withIncidents is).mask = s.mask := rfl
@[simp] theorem State.withIncidents_link : (s.withIncidents is).link = s.link := rfl
@[simp] theorem State.withIncidents_out : (s.withIncidents is).out = s.out := rfl
@[simp] theorem State.withIncidents_uPort : (s.withIncidents is).uPort = s.uPort := rfl
@[simp] theorem State.withIncidents_timeoutCheck : (s.withIncidents is).timeoutCheck = s.timeoutCheck := rfl
@[simp] theorem State.withIncidents_forcedEnd : (s.withIncidents is).forcedEnd = s.forcedEnd := rfl
@[simp] theorem State.withIncidents_openChoices : (s.withIncidents is).openChoices = s.openChoices := rfl
@[simp] theorem State.withIncidents_pending : (s.withIncidents is).pending = s.pending := rfl

end

/-! ### withJoined -/

section
variable (s : State) (x : Transaction)

@[simp] theorem State.withJoined_timer : (s.withJoined x).timer = s.timer := rfl
@[simp] theorem State.withJoined_staged : (s.withJoined x).staged = s.staged := rfl
@[simp] theorem State.withJoined_active : (s.withJoined x).active = s.active := rfl
@[simp] theorem State.withJoined_restraints : (s.withJoined x).restraints = s.restraints := rfl
@[simp] theorem State.withJoined_hold : (s.withJoined x).hold = s.hold := rfl
@[simp] theorem State.withJoined_issueQueue : (s.withJoined x).issueQueue = s.issueQueue ++ [x] := rfl
@[simp] theorem State.withJoined_slots : (s.withJoined x).slots = s.slots := rfl
@[simp] theorem State.withJoined_commit : (s.withJoined x).commit = s.commit := rfl
@[simp] theorem State.withJoined_restart : (s.withJoined x).restart = s.restart := rfl
@[simp] theorem State.withJoined_log : (s.withJoined x).log = s.log := rfl
@[simp] theorem State.withJoined_latched : (s.withJoined x).latched = s.latched := rfl
@[simp] theorem State.withJoined_mask : (s.withJoined x).mask = s.mask := rfl
@[simp] theorem State.withJoined_link : (s.withJoined x).link = s.link := rfl
@[simp] theorem State.withJoined_out : (s.withJoined x).out = s.out := rfl
@[simp] theorem State.withJoined_uPort : (s.withJoined x).uPort = s.uPort := rfl
@[simp] theorem State.withJoined_timeoutCheck : (s.withJoined x).timeoutCheck = s.timeoutCheck := rfl
@[simp] theorem State.withJoined_forcedEnd : (s.withJoined x).forcedEnd = s.forcedEnd := rfl
@[simp] theorem State.withJoined_openChoices : (s.withJoined x).openChoices = s.openChoices := rfl
@[simp] theorem State.withJoined_pending : (s.withJoined x).pending = s.pending := rfl

end

/-! ### withAnswer -/

section
variable (s : State) (q c : Byte) (n : Nat) (st : Status) (b : List Byte)

@[simp] theorem State.withAnswer_timer : (s.withAnswer q c n st b).timer = s.timer := rfl
@[simp] theorem State.withAnswer_staged : (s.withAnswer q c n st b).staged = s.staged := rfl
@[simp] theorem State.withAnswer_active : (s.withAnswer q c n st b).active = s.active := rfl
@[simp] theorem State.withAnswer_accounts : (s.withAnswer q c n st b).accounts = s.accounts := rfl
@[simp] theorem State.withAnswer_restraints : (s.withAnswer q c n st b).restraints = s.restraints := rfl
@[simp] theorem State.withAnswer_hold : (s.withAnswer q c n st b).hold = s.hold := rfl
@[simp] theorem State.withAnswer_issueQueue : (s.withAnswer q c n st b).issueQueue = s.issueQueue := rfl
@[simp] theorem State.withAnswer_slots : (s.withAnswer q c n st b).slots = s.slots := rfl
@[simp] theorem State.withAnswer_commit : (s.withAnswer q c n st b).commit = s.commit := rfl
@[simp] theorem State.withAnswer_restart : (s.withAnswer q c n st b).restart = s.restart := rfl
@[simp] theorem State.withAnswer_log : (s.withAnswer q c n st b).log = s.log := rfl
@[simp] theorem State.withAnswer_latched : (s.withAnswer q c n st b).latched = s.latched := rfl
@[simp] theorem State.withAnswer_mask : (s.withAnswer q c n st b).mask = s.mask := rfl
@[simp] theorem State.withAnswer_link :
    (s.withAnswer q c n st b).link =
      { answer := some { seq := q, code := c, status := st, results := b }, lastSeq := q, lastCode := c, select := .released } := rfl
@[simp] theorem State.withAnswer_out :
    (s.withAnswer q c n st b).out =
      { s.out with shifted := List.replicate n 0xFF } := rfl
@[simp] theorem State.withAnswer_uPort : (s.withAnswer q c n st b).uPort = s.uPort := rfl
@[simp] theorem State.withAnswer_timeoutCheck : (s.withAnswer q c n st b).timeoutCheck = s.timeoutCheck := rfl
@[simp] theorem State.withAnswer_forcedEnd : (s.withAnswer q c n st b).forcedEnd = s.forcedEnd := rfl
@[simp] theorem State.withAnswer_openChoices : (s.withAnswer q c n st b).openChoices = s.openChoices := rfl
@[simp] theorem State.withAnswer_pending : (s.withAnswer q c n st b).pending = s.pending := rfl

end

/-! ### freeSlots -/

section
variable (s : State) (f : SlotId → Bool)

@[simp] theorem State.freeSlots_timer : (s.freeSlots f).timer = s.timer := rfl
@[simp] theorem State.freeSlots_staged : (s.freeSlots f).staged = s.staged := rfl
@[simp] theorem State.freeSlots_active : (s.freeSlots f).active = s.active := rfl
@[simp] theorem State.freeSlots_accounts : (s.freeSlots f).accounts = s.accounts := rfl
@[simp] theorem State.freeSlots_restraints : (s.freeSlots f).restraints = s.restraints := rfl
@[simp] theorem State.freeSlots_hold : (s.freeSlots f).hold = s.hold := rfl
@[simp] theorem State.freeSlots_issueQueue : (s.freeSlots f).issueQueue = s.issueQueue := rfl
@[simp] theorem State.freeSlots_slots :
    (s.freeSlots f).slots =
      Table.remap s.slots fun i x => if f i then .free else x.forget f := rfl
@[simp] theorem State.freeSlots_commit : (s.freeSlots f).commit = s.commit := rfl
@[simp] theorem State.freeSlots_restart : (s.freeSlots f).restart = s.restart := rfl
@[simp] theorem State.freeSlots_log : (s.freeSlots f).log = s.log := rfl
@[simp] theorem State.freeSlots_latched : (s.freeSlots f).latched = s.latched := rfl
@[simp] theorem State.freeSlots_mask : (s.freeSlots f).mask = s.mask := rfl
@[simp] theorem State.freeSlots_link : (s.freeSlots f).link = s.link := rfl
@[simp] theorem State.freeSlots_out : (s.freeSlots f).out = s.out := rfl
@[simp] theorem State.freeSlots_uPort : (s.freeSlots f).uPort = s.uPort := rfl
@[simp] theorem State.freeSlots_timeoutCheck : (s.freeSlots f).timeoutCheck = s.timeoutCheck := rfl
@[simp] theorem State.freeSlots_forcedEnd : (s.freeSlots f).forcedEnd = s.forcedEnd := rfl
@[simp] theorem State.freeSlots_openChoices : (s.freeSlots f).openChoices = s.openChoices := rfl
@[simp] theorem State.freeSlots_pending : (s.freeSlots f).pending = s.pending := rfl

end

/-! ### refill -/

section
variable (s : State)

@[simp] theorem State.refill_timer : (s.refill).timer = s.timer := rfl
@[simp] theorem State.refill_staged : (s.refill).staged = s.staged := rfl
@[simp] theorem State.refill_active : (s.refill).active = s.active := rfl
@[simp] theorem State.refill_restraints : (s.refill).restraints = s.restraints := rfl
@[simp] theorem State.refill_hold : (s.refill).hold = s.hold := rfl
@[simp] theorem State.refill_issueQueue : (s.refill).issueQueue = s.issueQueue := rfl
@[simp] theorem State.refill_slots : (s.refill).slots = s.slots := rfl
@[simp] theorem State.refill_commit : (s.refill).commit = s.commit := rfl
@[simp] theorem State.refill_restart : (s.refill).restart = s.restart := rfl
@[simp] theorem State.refill_log : (s.refill).log = s.log := rfl
@[simp] theorem State.refill_latched : (s.refill).latched = s.latched := rfl
@[simp] theorem State.refill_mask : (s.refill).mask = s.mask := rfl
@[simp] theorem State.refill_link : (s.refill).link = s.link := rfl
@[simp] theorem State.refill_out : (s.refill).out = s.out := rfl
@[simp] theorem State.refill_uPort : (s.refill).uPort = s.uPort := rfl
@[simp] theorem State.refill_timeoutCheck : (s.refill).timeoutCheck = s.timeoutCheck := rfl
@[simp] theorem State.refill_forcedEnd : (s.refill).forcedEnd = s.forcedEnd := rfl
@[simp] theorem State.refill_openChoices : (s.refill).openChoices = s.openChoices := rfl
@[simp] theorem State.refill_pending : (s.refill).pending = s.pending := rfl

end

/-! ### rollover -/

section
variable (s : State)

@[simp] theorem State.rollover_timer : (s.rollover).timer = s.timer := rfl
@[simp] theorem State.rollover_staged : (s.rollover).staged = s.staged := rfl
@[simp] theorem State.rollover_active : (s.rollover).active = s.active := rfl
@[simp] theorem State.rollover_restraints : (s.rollover).restraints = s.restraints := rfl
@[simp] theorem State.rollover_hold : (s.rollover).hold = s.hold := rfl
@[simp] theorem State.rollover_issueQueue : (s.rollover).issueQueue = s.issueQueue := rfl
@[simp] theorem State.rollover_slots : (s.rollover).slots = s.slots := rfl
@[simp] theorem State.rollover_commit : (s.rollover).commit = s.commit := rfl
@[simp] theorem State.rollover_restart : (s.rollover).restart = s.restart := rfl
@[simp] theorem State.rollover_log : (s.rollover).log = s.log := rfl
@[simp] theorem State.rollover_latched : (s.rollover).latched = s.latched := rfl
@[simp] theorem State.rollover_mask : (s.rollover).mask = s.mask := rfl
@[simp] theorem State.rollover_link : (s.rollover).link = s.link := rfl
@[simp] theorem State.rollover_out : (s.rollover).out = s.out := rfl
@[simp] theorem State.rollover_uPort : (s.rollover).uPort = s.uPort := rfl
@[simp] theorem State.rollover_timeoutCheck : (s.rollover).timeoutCheck = s.timeoutCheck := rfl
@[simp] theorem State.rollover_forcedEnd : (s.rollover).forcedEnd = s.forcedEnd := rfl
@[simp] theorem State.rollover_openChoices : (s.rollover).openChoices = s.openChoices := rfl
@[simp] theorem State.rollover_pending : (s.rollover).pending = s.pending := rfl

end

/-! ### ageHold -/

section
variable (s : State)

@[simp] theorem State.ageHold_timer : (s.ageHold).timer = s.timer := rfl
@[simp] theorem State.ageHold_staged : (s.ageHold).staged = s.staged := rfl
@[simp] theorem State.ageHold_active : (s.ageHold).active = s.active := rfl
@[simp] theorem State.ageHold_accounts : (s.ageHold).accounts = s.accounts := rfl
@[simp] theorem State.ageHold_restraints : (s.ageHold).restraints = s.restraints := rfl
@[simp] theorem State.ageHold_hold : (s.ageHold).hold = s.hold.map HeldEntry.aged := rfl
@[simp] theorem State.ageHold_issueQueue : (s.ageHold).issueQueue = s.issueQueue := rfl
@[simp] theorem State.ageHold_slots : (s.ageHold).slots = s.slots := rfl
@[simp] theorem State.ageHold_commit : (s.ageHold).commit = s.commit := rfl
@[simp] theorem State.ageHold_restart : (s.ageHold).restart = s.restart := rfl
@[simp] theorem State.ageHold_log : (s.ageHold).log = s.log := rfl
@[simp] theorem State.ageHold_latched : (s.ageHold).latched = s.latched := rfl
@[simp] theorem State.ageHold_mask : (s.ageHold).mask = s.mask := rfl
@[simp] theorem State.ageHold_link : (s.ageHold).link = s.link := rfl
@[simp] theorem State.ageHold_out : (s.ageHold).out = s.out := rfl
@[simp] theorem State.ageHold_uPort : (s.ageHold).uPort = s.uPort := rfl
@[simp] theorem State.ageHold_timeoutCheck : (s.ageHold).timeoutCheck = s.timeoutCheck := rfl
@[simp] theorem State.ageHold_forcedEnd : (s.ageHold).forcedEnd = s.forcedEnd := rfl
@[simp] theorem State.ageHold_openChoices : (s.ageHold).openChoices = s.openChoices := rfl
@[simp] theorem State.ageHold_pending : (s.ageHold).pending = s.pending := rfl

end

/-! ### ignoreTransfer -/

section
variable (s : State) (n : Nat)

@[simp] theorem State.ignoreTransfer_timer : (s.ignoreTransfer n).timer = s.timer := rfl
@[simp] theorem State.ignoreTransfer_staged : (s.ignoreTransfer n).staged = s.staged := rfl
@[simp] theorem State.ignoreTransfer_active : (s.ignoreTransfer n).active = s.active := rfl
@[simp] theorem State.ignoreTransfer_accounts : (s.ignoreTransfer n).accounts = s.accounts := rfl
@[simp] theorem State.ignoreTransfer_restraints : (s.ignoreTransfer n).restraints = s.restraints := rfl
@[simp] theorem State.ignoreTransfer_hold : (s.ignoreTransfer n).hold = s.hold := rfl
@[simp] theorem State.ignoreTransfer_issueQueue : (s.ignoreTransfer n).issueQueue = s.issueQueue := rfl
@[simp] theorem State.ignoreTransfer_slots : (s.ignoreTransfer n).slots = s.slots := rfl
@[simp] theorem State.ignoreTransfer_commit : (s.ignoreTransfer n).commit = s.commit := rfl
@[simp] theorem State.ignoreTransfer_restart : (s.ignoreTransfer n).restart = s.restart := rfl
@[simp] theorem State.ignoreTransfer_log : (s.ignoreTransfer n).log = s.log := rfl
@[simp] theorem State.ignoreTransfer_latched : (s.ignoreTransfer n).latched = s.latched := rfl
@[simp] theorem State.ignoreTransfer_mask : (s.ignoreTransfer n).mask = s.mask := rfl
@[simp] theorem State.ignoreTransfer_link : (s.ignoreTransfer n).link = { s.link with select := .released } := rfl
@[simp] theorem State.ignoreTransfer_out :
    (s.ignoreTransfer n).out =
      { s.out with shifted := s.out.shifted ++ List.replicate n 0xFF } := rfl
@[simp] theorem State.ignoreTransfer_uPort : (s.ignoreTransfer n).uPort = s.uPort := rfl
@[simp] theorem State.ignoreTransfer_timeoutCheck : (s.ignoreTransfer n).timeoutCheck = s.timeoutCheck := rfl
@[simp] theorem State.ignoreTransfer_forcedEnd : (s.ignoreTransfer n).forcedEnd = s.forcedEnd := rfl
@[simp] theorem State.ignoreTransfer_openChoices : (s.ignoreTransfer n).openChoices = s.openChoices := rfl
@[simp] theorem State.ignoreTransfer_pending : (s.ignoreTransfer n).pending = s.pending := rfl

end

/-! ### holdTransaction -/

section
variable (s : State) (t : Transaction)

@[simp] theorem State.holdTransaction_timer : (s.holdTransaction t).timer = s.timer := rfl
@[simp] theorem State.holdTransaction_staged : (s.holdTransaction t).staged = s.staged := rfl
@[simp] theorem State.holdTransaction_active : (s.holdTransaction t).active = s.active := rfl
@[simp] theorem State.holdTransaction_accounts : (s.holdTransaction t).accounts = s.accounts := rfl
@[simp] theorem State.holdTransaction_restraints : (s.holdTransaction t).restraints = s.restraints := rfl
@[simp] theorem State.holdTransaction_hold : (s.holdTransaction t).hold = s.hold ++ [{ txn := t, age := 0 }] := rfl
@[simp] theorem State.holdTransaction_issueQueue : (s.holdTransaction t).issueQueue = s.issueQueue := rfl
@[simp] theorem State.holdTransaction_slots : (s.holdTransaction t).slots = s.slots := rfl
@[simp] theorem State.holdTransaction_commit : (s.holdTransaction t).commit = s.commit := rfl
@[simp] theorem State.holdTransaction_restart : (s.holdTransaction t).restart = s.restart := rfl
@[simp] theorem State.holdTransaction_log : (s.holdTransaction t).log = s.log := rfl
@[simp] theorem State.holdTransaction_latched : (s.holdTransaction t).latched = s.latched := rfl
@[simp] theorem State.holdTransaction_mask : (s.holdTransaction t).mask = s.mask := rfl
@[simp] theorem State.holdTransaction_link : (s.holdTransaction t).link = s.link := rfl
@[simp] theorem State.holdTransaction_out : (s.holdTransaction t).out = s.out := rfl
@[simp] theorem State.holdTransaction_uPort : (s.holdTransaction t).uPort = s.uPort := rfl
@[simp] theorem State.holdTransaction_timeoutCheck : (s.holdTransaction t).timeoutCheck = s.timeoutCheck := rfl
@[simp] theorem State.holdTransaction_forcedEnd : (s.holdTransaction t).forcedEnd = s.forcedEnd := rfl
@[simp] theorem State.holdTransaction_openChoices : (s.holdTransaction t).openChoices = s.openChoices := rfl
@[simp] theorem State.holdTransaction_pending : (s.holdTransaction t).pending = s.pending := rfl

end

end Sys2Proof.Machine
end

