-- ==== Sys2Proof/Laws/Tables.lean ====
section
/-! SUPPORT. Reading a table after it is written: one lemma per way a table is made. -/

namespace Sys2Proof

variable {α β : Type} {n : Nat}

theorem Table.put_get (v : Table α n) (i j : Fin n) (x : α) :
    (Table.put v i x)[j] = if j = i then x else v[j] := by
  simp only [Table.put, Fin.getElem_fin, Vector.getElem_set, Fin.ext_iff]
  split <;> split <;> first | rfl | omega

theorem Table.put_get_same (v : Table α n) (i : Fin n) (x : α) : (Table.put v i x)[i] = x := by
  rw [Table.put_get, if_pos rfl]

@[simp] theorem Table.remap_get (v : Table α n) (f : Fin n → α → β) (i : Fin n) :
    (Table.remap v f)[i] = f i v[i] := by
  simp [Table.remap]

@[simp] theorem Table.fill_get (x : α) (i : Fin n) : (Table.fill n x)[i] = x := by
  simp [Table.fill]

/-! The same with a plain number as index, the form `simp` gives to a reading. -/

@[simp] theorem Table.remap_getElem (v : Table α n) (f : Fin n → α → β) (k : Nat) (h : k < n) :
    (Table.remap v f)[k] = f ⟨k, h⟩ v[k] := Table.remap_get v f ⟨k, h⟩

@[simp] theorem Table.fill_getElem (x : α) (k : Nat) (h : k < n) : (Table.fill n x)[k] = x :=
  Table.fill_get x ⟨k, h⟩

theorem Table.put_getElem (v : Table α n) (i : Fin n) (x : α) (k : Nat) (h : k < n) :
    (Table.put v i x)[k] = if k = i.val then x else v[k] := by
  simp only [Table.put, Vector.getElem_set, eq_comm]

/-- Two tables with the same entries are the same table. -/
theorem Table.ext_get {v w : Table α n} (h : ∀ i : Fin n, v[i] = w[i]) : v = w := by
  apply Vector.ext
  intro k hk
  exact h ⟨k, hk⟩

/-- Writing back what an entry holds changes nothing. -/
theorem Table.put_self (v : Table α n) (i : Fin n) : Table.put v i v[i] = v := by
  apply Table.ext_get
  intro j
  rw [Table.put_get]
  split
  · next h => rw [h]
  · rfl

end Sys2Proof
end

