-- ==== Sys2Proof/Laws/Ops.lean ====
section
/-! SUPPORT. What each shared operation does, said once: the log, the refusals, the joining of the issue queue, the
tests of admission, and the due steps when nothing is due. -/

namespace Sys2Proof.Machine

/-! ## The log -/

/-- Handing one incident to the log is the statement form with one incident. -/
theorem State.record_eq (s : State) (i : Incident) : s.record i = s.withIncidents [i] := by
  by_cases h : s.log.records.length < 32
  · have : ¬ 32 < s.log.records.length + 1 := by omega
    simp [State.record, State.withIncidents, IncidentLog.handed, IncidentLog.overflows, Config.logCapacity, h, this]
  · have : 32 < s.log.records.length + 1 := by omega
    simp [State.record, State.withIncidents, IncidentLog.handed, IncidentLog.overflows, Config.logCapacity,
      LatchedCauses.withLogLost, h, this]

theorem IncidentLog.handed_append (l : IncidentLog) (w : BitVec 16) (a b : List Incident) :
    l.handed w (a ++ b) = (l.handed w a).handed w b := by
  simp [IncidentLog.handed, List.foldl_append]

/-- A log that has room for all of a list of incidents keeps them all. -/
theorem IncidentLog.handed_length (l : IncidentLog) (w : BitVec 16) (is : List Incident)
    (h : l.records.length ≤ 32) : (l.handed w is).records.length = min (l.records.length + is.length) 32 := by
  induction is generalizing l with
  | nil => simp [IncidentLog.handed, h]
  | cons i is ih =>
    have step : l.handed w (i :: is) =
        (if l.records.length < 32 then l.append w i else l.drop).handed w is := rfl
    rw [step]
    split
    · next hl =>
      rw [ih _ (by simp [IncidentLog.append]; omega)]
      simp [IncidentLog.append]; omega
    · rw [ih l.drop h]
      simp [IncidentLog.drop]; omega

/-! ## Refusing and joining -/

/-- A RETRY or a DENIED is the response, counted for a present requester. -/
theorem State.refuse_eq (s : State) (x : Transaction) (o : ResponseOutcome) (ho : o = .retry ∨ o = .denied) :
    s.refuse x o = s.withRefusal x o := by
  have counted : ∀ a : Account, a.counted o =
      { a with
        retryCount := if o = .retry then a.retryCount + 1 else a.retryCount
        deniedCount := if o = .denied then a.deniedCount + 1 else a.deniedCount } := by
    rcases ho with rfl | rfl <;> intro a <;> rfl
  unfold State.refuse State.withRefusal
  by_cases h : (s.entry x.requester).present = true
  · have accounts : Table.put s.accounts x.requester ((s.account x.requester).counted o) =
        Table.remap s.accounts fun r a => if r = x.requester ∧ (s.entry r).present = true then
          { a with
            retryCount := if o = .retry then a.retryCount + 1 else a.retryCount
            deniedCount := if o = .denied then a.deniedCount + 1 else a.deniedCount } else a := by
      apply Table.ext_get
      intro r
      rw [Table.put_get, Table.remap_get]
      by_cases hr : r = x.requester
      · subst hr; rw [if_pos rfl, if_pos ⟨rfl, h⟩, counted]; rfl
      · rw [if_neg hr, if_neg fun k => hr k.1]
    rw [← accounts]
    simp only [State.respond, State.setAccount, plainResponse]
    exact if_pos h
  · have accounts : (Table.remap s.accounts fun r a => if r = x.requester ∧ (s.entry r).present = true then
          { a with
            retryCount := if o = .retry then a.retryCount + 1 else a.retryCount
            deniedCount := if o = .denied then a.deniedCount + 1 else a.deniedCount } else a) = s.accounts := by
      apply Table.ext_get
      intro r
      rw [Table.remap_get, if_neg]
      rintro ⟨rfl, k⟩
      exact h k
    rw [accounts]
    simp only [State.respond, plainResponse]
    exact if_neg h

/-- Joining the issue queue, in the statement form. -/
theorem State.join_eq (s : State) (x : Transaction) : s.join x = s.withJoined x := by
  have accounts : Table.put s.accounts x.requester
      ((s.account x.requester).forwarded (s.regulating && (s.entry x.requester).accounted) x.length.val) =
      (s.withJoined x).accounts := by
    apply Table.ext_get
    intro r
    rw [State.withJoined, Table.put_get, Table.remap_get]
    by_cases hr : r = x.requester
    · subst hr
      simp [Account.forwarded, State.account, State.regulating, RequesterEntry.accounted]
    · rw [if_neg hr, if_neg hr]
  simp only [State.join, State.setAccount, accounts]
  rfl

/-! ## The tests of admission -/

/-- The model's test of R25 is the statement form. -/
theorem malformed_iff (x : Transaction) : malformed x = true ↔ Malformed x := by
  simp only [malformed, Bool.or_eq_true, decide_eq_true_eq]
  simp only [Malformed, byteEnd, Config.beatBytes, Config.maxBeats, Config.addressEnd, or_assoc]

/-- The model's test of R26 is the statement form. -/
theorem State.live_iff (s : State) (r : RequesterId) (g : Tag) : s.live r g = true ↔ LivePair s r g := by
  simp only [State.live, LivePair, Bool.or_eq_true, List.any_eq_true, carries, Bool.and_eq_true, decide_eq_true_eq,
    List.mem_finRange, true_and, or_assoc]
  refine or_congr Iff.rfl (or_congr Iff.rfl (exists_congr fun i => ?_))
  cases s.slot i <;> simp [Slot.named, Slot.liveRecord]

/-- The model's test of a match (R70) is the statement form, for a transaction of at least one beat. -/
theorem RangeEntry.hits_iff (e : RangeEntry) (cls : Nat) (x : Transaction) (h : 1 ≤ x.length.val) :
    e.hits cls x = true ↔ Matches e cls x := by
  have overlap : e.base.toNat < x.address.toNat + 16 * x.length.val ↔
      e.base.toNat ≤ x.address.toNat + 16 * x.length.val - 1 := by omega
  have kinds : e.kinds.covers x.kind = true ↔
      (e.kinds = .both ∨ (e.kinds = .read ∧ x.kind = .read) ∨ (e.kinds = .write ∧ x.kind = .write)) := by
    cases e.kinds <;> simp [RangeKinds.covers]
  simp only [RangeEntry.hits, Matches, hasClass, byteEnd, Config.beatBytes, Bool.and_eq_true, decide_eq_true_eq,
    overlap, kinds, and_assoc]

/-- The model's hold test (R33) is the statement form. -/
theorem State.toBeHeld_iff (s : State) (r : RequesterId) : s.toBeHeld r = true ↔ ToBeHeld s r := by
  have held : 0 < s.heldCount r ↔ ∃ e ∈ s.hold, e.txn.requester = r := by
    simp [State.heldCount, List.length_pos_iff_exists_mem]
  simp only [State.toBeHeld, ToBeHeld, State.regulating, Bool.or_eq_true, Bool.and_eq_true, decide_eq_true_eq, held,
    or_assoc, and_assoc]

/-! ## When nothing is due -/

/-- With no entry over age the expiry finds nothing. -/
theorem State.expireHold_of_closed {s : State} (h : s.holdClosed = true) : s.expireHold = s := by
  simp only [State.holdClosed, List.all_eq_true] at h
  have none : s.hold.filter (HeldEntry.overAge s.active.global.holdAgeLimit) = [] :=
    List.filter_eq_nil_iff.2 fun e he => by simpa using h e he
  have all : (s.hold.filter fun e => !HeldEntry.overAge s.active.global.holdAgeLimit e) = s.hold :=
    List.filter_eq_self.2 h
  simp only [State.expireHold, none, List.foldl_nil, all]

/-- A tick that is taken everywhere leaves nothing to take at the timer, the hold queue and the slots. -/
theorem State.settleTick_of_closed {s : State} (h : s.tickClosed = true) : s.settleTick = s := by
  simp only [State.tickClosed, Bool.and_eq_true, Bool.not_eq_true', Option.isNone_iff_eq_none] at h
  obtain ⟨⟨hold, window⟩, check⟩ := h
  simp [State.settleTick, State.takeWindowEnd, State.takeTimeouts, State.expireHold_of_closed hold, window, check]

/-- The grant changes what is kept of the waiting request and nothing else. -/
theorem State.takeGrant_eq (s : State) :
    s.takeGrant = { s with uPort := if s.grantDue then .granted else s.uPort } := by
  unfold State.takeGrant
  split
  · rfl
  · rfl

/-- A drain is complete exactly when the issue queue is empty and no slot is ISSUED (R149, R156). -/
theorem State.drained_iff (s : State) :
    s.drained = true ↔ s.issueQueue = [] ∧ ∀ i : SlotId, (s.slot i).isIssued = false := by
  simp [State.drained, State.slotsWhere, List.filter_eq_nil_iff]

/-- A restart is ended by force only after a tick that found its drain not complete. -/
theorem State.takeForcedEnd_of_none {s : State} (h : s.forcedEnd = false) : s.takeForcedEnd = s := by
  have : s.forcedEndDue = false := by
    unfold State.forcedEndDue
    split <;> simp [h]
  simp [State.takeForcedEnd, this]

/-- A drain that is complete when a tick is counted has no forced end from that tick (R158). -/
theorem State.countTick_of_drained {s : State} (h : s.drained = true) : s.countTick.forcedEnd = false := by
  show s.tickForcesEnd = false
  unfold State.tickForcesEnd
  split <;> simp [h]

/-- With nothing due no step is taken before a command. -/
theorem State.settle_of_settled {s : State} (h : s.settled = true) : s.settle = s := by
  simp only [State.settled, Bool.and_eq_true, Bool.not_eq_true'] at h
  obtain ⟨⟨⟨tick, abandon⟩, forced⟩, grant⟩ := h
  simp [State.settle, State.settleDrains, State.settleTick_of_closed tick, State.takeAbandon, State.takeForcedEnd, State.takeGrant,
    abandon, forced, grant]

/-- A command on a part with nothing due starts from that part with empty ports. -/
theorem State.begin_of_settled {s : State} (h : s.settled = true) : s.begin = s.clearOut :=
  State.settle_of_settled (s := s.clearOut) h

/-- A part with nothing due is ready for an arrival. -/
theorem State.arrivalReady_of_settled {s : State} (h : s.settled = true) : s.arrivalReady = true := by
  simp only [State.settled, State.tickClosed, Bool.and_eq_true] at h
  simp [State.arrivalReady, h]

/-- With nothing due but an expiry no step is taken before a taking. -/
theorem State.settleForTaking_of_ready {s : State} (h : s.arrivalReady = true) : s.settleForTaking = s := by
  simp only [State.arrivalReady, Bool.and_eq_true, Bool.not_eq_true', Option.isNone_iff_eq_none] at h
  obtain ⟨⟨⟨⟨window, check⟩, abandon⟩, forced⟩, grant⟩ := h
  simp [State.settleForTaking, State.settleDrains, window, State.takeTimeouts, check, State.takeAbandon,
    State.takeForcedEnd, State.takeGrant, abandon, forced, grant]

/-- A taking on such a part starts from it with empty ports: the expiry stays due. -/
theorem State.beginTaking_of_ready {s : State} (h : s.arrivalReady = true) : s.beginTaking = s.clearOut :=
  State.settleForTaking_of_ready (s := s.clearOut) h

theorem State.beginDue_of_closed {s : State} (h : s.holdClosed = true) : s.beginDue = s.clearOut :=
  State.expireHold_of_closed (s := s.clearOut) h

theorem State.beginRace_of_closed {s : State} (h : s.tickClosed = true) : s.beginRace = s.clearOut :=
  State.settleTick_of_closed (s := s.clearOut) h

/-! ## Transfers of the M-link -/

/-- A management command on a part with nothing due and no transfer to be ignored: its action on the part with empty ports, its
answer in the store, its fill bytes on the port. -/
theorem State.run_of_ready {s : State} (h : s.linkReady = true) (seq code : Byte) (p : Nat)
    (act : State → CommandResult) :
    s.run seq code p act =
      (((act s.clearOut).state.store seq code (act s.clearOut).status (act s.clearOut).results).shiftOut
        (List.replicate (6 + p) 0xFF)) := by
  simp only [State.linkReady, Bool.and_eq_true, decide_eq_true_eq] at h
  simp [State.run, State.command, State.execute, State.begin_of_settled h.1, h.2, Config.fillByte]

/-- A management command within whose transfer a full reset was taken: fill bytes, and nothing else of the part changes
but the end of the select period. -/
theorem State.run_of_ignored {s : State} (h : s.settled = true) (ignored : s.link.select = .ignored) (seq code : Byte) (p : Nat)
    (act : State → CommandResult) : s.run seq code p act = s.clearOut.ignoreTransfer (6 + p) := by
  simp [State.run, State.command, State.begin_of_settled h, ignored]

end Sys2Proof.Machine
end

