-- ==== Sys2Proof/Laws/Flush.lean ====
section
/-! SUPPORT. What a run of refusals, a flush, an isolation and the freeing of slots do. -/

namespace Sys2Proof.Machine

/-- The account after refusing this many transactions of its requester. -/
def Account.refused (a : Account) (o : ResponseOutcome) (n : Nat) : Account :=
  { a with
    retryCount := if o = .retry then a.retryCount + BitVec.ofNat 16 n else a.retryCount
    deniedCount := if o = .denied then a.deniedCount + BitVec.ofNat 16 n else a.deniedCount }

/-- The part after refusing each of a list: one response each, in list order, counted for present requesters. -/
def State.withRefusals (s : State) (ts : List Transaction) (o : ResponseOutcome) : State :=
  { s with
    out := { s.out with responses := s.out.responses ++ ts.map fun x => plainResponse x.requester x.tag o }
    accounts := Table.remap s.accounts fun r a =>
      if (s.entry r).present = true then a.refused o (ts.countP fun x => decide (x.requester = r)) else a }

theorem State.withRefusals_nil (s : State) (o : ResponseOutcome) : s.withRefusals [] o = s := by
  have accounts : (s.withRefusals [] o).accounts = s.accounts := by
    apply Table.ext_get
    intro r
    simp [State.withRefusals, Account.refused]
  have out : (s.withRefusals [] o).out = s.out := by simp [State.withRefusals]
  change { s with out := (s.withRefusals [] o).out, accounts := (s.withRefusals [] o).accounts } = s
  rw [accounts, out]

/-- Refusing a list in order gives its responses in order, and each present requester's count rises by the number of
its transactions in the list. -/
theorem State.refuseAll_eq (s : State) (ts : List Transaction) (o : ResponseOutcome)
    (ho : o = .retry ∨ o = .denied) : s.refuseAll ts o = s.withRefusals ts o := by
  induction ts generalizing s with
  | nil => exact (s.withRefusals_nil o).symm
  | cons x ts ih =>
    have step : s.refuseAll (x :: ts) o = (s.refuse x o).refuseAll ts o := rfl
    rw [step, ih, s.refuse_eq x o ho]
    have accounts : ((s.withRefusal x o).withRefusals ts o).accounts = (s.withRefusals (x :: ts) o).accounts := by
      apply Table.ext_get
      intro r
      simp only [State.withRefusals, State.withRefusal, State.entry, Table.remap_get, List.countP_cons]
      by_cases present : s.active.requesters[r].present = true
      · by_cases hr : r = x.requester
        · subst hr
          rcases ho with rfl | rfl <;>
            simp only [present, Account.refused, BitVec.ofNat_add, and_self, if_true, decide_true] <;>
            simp [BitVec.add_comm, add_left_comm]
        · have : ¬ x.requester = r := fun h => hr h.symm
          simp only [present, hr, this, false_and, if_true, if_false, decide_false, Nat.add_zero, Bool.false_eq_true]
      · simp only [present, and_false, if_false, Bool.false_eq_true]
    have out : ((s.withRefusal x o).withRefusals ts o).out = (s.withRefusals (x :: ts) o).out := by
      simp [State.withRefusals, State.withRefusal, plainResponse]
    change { s with
      out := ((s.withRefusal x o).withRefusals ts o).out
      accounts := ((s.withRefusal x o).withRefusals ts o).accounts } = s.withRefusals (x :: ts) o
    rw [accounts, out]
    rfl

/-- A flush takes the entries named out of the list, the others keeping their order, and refuses them in list order. -/
theorem State.flush_eq (s : State) (named : HeldEntry → Bool) (o : ResponseOutcome)
    (ho : o = .retry ∨ o = .denied) :
    s.flush named o =
      { s with hold := s.hold.filter fun e => !named e }.withRefusals ((s.hold.filter named).map HeldEntry.txn) o :=
  State.refuseAll_eq _ _ _ ho

/-- Isolation sets the standing, flushes the requester's held entries with DENIED and latches ISOLATION. -/
theorem State.isolate_eq (s : State) (r : RequesterId) :
    s.isolate r =
      (({ s with
          restraints := Table.put s.restraints r { s.restraint r with standing := .isolated }
          hold := s.hold.filter fun e : HeldEntry => !decide (e.txn.requester = r) }.withRefusals
        ((s.hold.filter fun e : HeldEntry => decide (e.txn.requester = r)).map HeldEntry.txn) .denied).latch
        LatchedCauses.withIsolation) := by
  rw [State.isolate, State.flush_eq _ _ _ (Or.inr rfl)]
  rfl

/-- A slot after some slots go FREE. -/
theorem State.freeSlots_slot (s : State) (freed : SlotId → Bool) (i : SlotId) :
    (s.freeSlots freed).slot i = if freed i then .free else (s.slot i).forget freed := by
  simp [State.slot]

/-- A slot after one is written. -/
theorem State.setSlot_slot (s : State) (i j : SlotId) (x : Slot) :
    (s.setSlot i x).slot j = if j = i then x else s.slot j := by
  rw [State.slot, State.setSlot_slots, Table.put_get]
  rfl

end Sys2Proof.Machine
end

