-- ==== Sys2Proof/Laws/Layouts.lean ====
section
/-! SUPPORT. What the result bytes of a block or a record are: its layout, byte by byte (R191 to R193). -/

namespace Sys2Proof.Machine

theorem beBytes_one (n : Nat) : beBytes 1 n = [BitVec.ofNat 8 n] := rfl

theorem beBytes_two (n : Nat) : beBytes 2 n = twoBytes n := rfl

theorem beBytes_five (a : Addr) : beBytes 5 a.toNat = fiveBytes a := by
  simp [beBytes, fiveBytes, Nat.div_div_eq_div_mul]

theorem kindByte_eq (k : Kind) : kindByte k = if k = .read then 1 else 2 := by cases k <;> rfl

theorem boolByte_eq (b : Bool) : boolByte b = if b then 1 else 0 := by cases b <;> rfl

theorem GlobalBlock.bytes_eq_layout (g : GlobalBlock) : g.bytes = g.layout := by
  have mode : g.mode.byte = if g.mode = .regulating then 1 else 0 := by cases g.mode <;> rfl
  simp only [GlobalBlock.bytes, GlobalBlock.layout, beBytes_one, beBytes_two, boolByte_eq, mode]

theorem RequesterEntry.bytes_eq_layout (e : RequesterEntry) : e.bytes = e.layout := by
  simp [RequesterEntry.bytes, RequesterEntry.layout, beBytes_one, beBytes_two, boolByte_eq]

theorem RangeEntry.bytes_eq_layout (e : RangeEntry) : e.bytes = e.layout := by
  obtain ⟨valid, base, limit, kinds, classes, action⟩ := e
  simp only [RangeEntry.bytes, RangeEntry.layout, beBytes_five, boolByte_eq]
  cases kinds <;> cases action <;> rfl

theorem Slot.bytes_eq_layout (x : Slot) : x.bytes = x.layout := by
  have record (r : SlotRecord) (state : Byte) : state :: r.bytes = (Slot.layout (.issued r)).set 0 state := by
    obtain ⟨requester, tag, kind, address, length, role, partner, ticks, outcome, data⟩ := r
    simp only [SlotRecord.bytes, Slot.layout, beBytes_one, beBytes_two, beBytes_five, kindByte_eq]
    cases role <;> cases partner <;> cases outcome <;> rfl
  cases x with
  | free => rfl
  | issued r => exact record r 1
  | doneWaiting r => exact record r 2
  | abandoned r => exact record r 3

theorem IncidentRecord.bytes_eq_layout (x : IncidentRecord) : x.bytes = x.layout := by
  obtain ⟨seq, window, incident⟩ := x
  cases incident <;>
    simp [IncidentRecord.bytes, IncidentRecord.layout, Incident.fields, Incident.kindCode, beBytes,
      twoBytes, fiveBytes, IncidentFields.presentByte, Nat.div_div_eq_div_mul]

end Sys2Proof.Machine
end

