-- ==== Sys2Proof/Laws/Pairs.lean ====
section
/-! SUPPORT. The law of the outstanding table as a test that can be evaluated, and a part whose slots are all FREE. -/

namespace Sys2Proof.Machine

/-- The clauses of `PairLaw` for one slot, evaluated. -/
def State.pairAgrees (s : State) (i : SlotId) : Bool :=
  match (s.slot i).record? with
  | none => true
  | some r =>
    decide (r.role = .whole → r.partner = none) &&
      (match r.partner with
        | none => true
        | some p =>
          match (s.slot p).record? with
          | none => false
          | some q => decide (q.partner = some i ∧ q.requester = r.requester ∧ q.tag = r.tag ∧ q.kind = r.kind ∧
              ((r.role = .first ∧ q.role = .second) ∨ (r.role = .second ∧ q.role = .first)))) &&
      (!(s.slot i).isDoneWaiting || (r.partner.map fun p => (s.slot p).isIssued).getD false)

theorem PairLaw.of_agrees {s : State} (h : ∀ i : SlotId, s.pairAgrees i = true) : PairLaw s := by
  intro i r hr
  have hi := h i
  rw [State.pairAgrees, hr] at hi
  simp only [Bool.and_eq_true, decide_eq_true_eq, Bool.or_eq_true, Bool.not_eq_true'] at hi
  obtain ⟨⟨whole, named⟩, waiting⟩ := hi
  refine ⟨whole, fun p hp => ?_, fun hw => ?_⟩
  · rw [hp] at named
    cases hq : (s.slot p).record? with
    | none => simp [hq] at named
    | some q => exact ⟨q, rfl, by simpa [hq, partners] using named⟩
  · rw [hw] at waiting
    cases hp : r.partner with
    | none => simp [hp, Slot.isDoneWaiting] at waiting
    | some p =>
      cases hq : s.slot p with
      | issued q => exact ⟨p, q, rfl, hq⟩
      | free => simp [hp, hq, Slot.isDoneWaiting, Slot.isIssued] at waiting
      | doneWaiting q => simp [hp, hq, Slot.isDoneWaiting, Slot.isIssued] at waiting
      | abandoned q => simp [hp, hq, Slot.isDoneWaiting, Slot.isIssued] at waiting

/-- No slot ISSUED, read off a test that can be evaluated. -/
theorem not_issued_of {s : State} (h : ∀ i : SlotId, (s.slot i).isIssued = false) (i : SlotId) (q : SlotRecord) :
    s.slot i ≠ .issued q := by
  intro hi
  have := h i
  rw [hi] at this
  exact Bool.noConfusion this

end Sys2Proof.Machine
end

