-- ==== Sys2Proof/Tests/Slice0.lean ====
section
/-! SUPPORT. Tests: the checks of WellFormed, frames written out byte by byte from chapter 11, one step of each command
with its expected result from the manual's worked examples and tables, and for each statement with hypotheses a state
and operands that meet them. Expected values come from the manual; CRC bytes from R175 worked out outside the model. -/

namespace Sys2Proof.Tests

open Sys2Proof.Machine

set_option Elab.async false

/-! ## Helpers -/

/-- The state after a command (every command of this part answers next). -/
def after (c : Instr) (s : State) : State :=
  match exec c s with
  | .next t => t
  | .fault _ => s
  | .refused _ => s

def withGlobal (g : GlobalBlock) (s : State) : State := { s with active := { s.active with global := g } }

def withEntry (r : RequesterId) (e : RequesterEntry) (s : State) : State :=
  { s with active := { s.active with requesters := Table.put s.active.requesters r e } }

def withRange (n : RangeId) (e : RangeEntry) (s : State) : State :=
  { s with active := { s.active with ranges := Table.put s.active.ranges n e } }

def withBalance (r : RequesterId) (b : Int) (s : State) : State :=
  s.setAccount r { s.account r with balance := b }

def withStanding (r : RequesterId) (x : Standing) (s : State) : State :=
  s.setRestraint r { s.restraint r with standing := x }

def entry (level allowance carry cls share escalation : Nat) : RequesterEntry :=
  { present := true, regulated := true, allowance := allowance, carryLimit := carry, level := level, cls := cls,
    holdShare := share, escalationLimit := escalation }

def absent : RequesterEntry := { RequesterEntry.default with present := false }

def regulating : GlobalBlock := { GlobalBlock.default with mode := .regulating }

def read (r : RequesterId) (g : Tag) (a : Addr) (n : Fin 32) : Transaction :=
  { requester := r, tag := g, kind := .read, address := a, length := n, data := [] }

def write (r : RequesterId) (g : Tag) (a : Addr) (n : Fin 32) : Transaction :=
  { read r g a n with kind := .write, data := List.replicate n.val 1 }

def held (t : Transaction) (age : Nat) : HeldEntry := { txn := t, age := age }

def piece (t : Transaction) (role : PieceRole) (a : Addr) (n : Nat) (partner : Option SlotId) (ticks : Nat) :
    SlotRecord :=
  { requester := t.requester, tag := t.tag, kind := t.kind, address := a, length := n, role := role,
    partner := partner, ticks := ticks, outcome := .pending, readData := none }

/-- A slot ISSUED with the whole of a transaction. -/
def wholeSlot (t : Transaction) (ticks : Nat) : Slot := .issued (piece t .whole t.address t.length.val none ticks)

def someRecord : IncidentRecord := { seq := 0, window := 0, incident := .commitApplied }

/-- A log of `n` records that end before sequence number `next`. -/
def logOf (n next : Nat) : IncidentLog :=
  { records := (List.range n).map fun k => { someRecord with seq := BitVec.ofNat 16 (next - n + k) }
    nextSeq := BitVec.ofNat 16 next, lost := 0 }

theorem notLive {s : State} {r : RequesterId} {g : Tag} (h : s.live r g = false) : ¬ LivePair s r g := fun k => by
  rw [(s.live_iff r g).2 k] at h
  exact Bool.noConfusion h

theorem wellFormed {x : Transaction} (h : malformed x = false) : ¬ Malformed x := fun k => by
  rw [(malformed_iff x).2 k] at h
  exact Bool.noConfusion h

/-! ## WellFormed: each check refuses an ill-formed term -/

theorem test_wf_read_without_beats : (Instr.transactionTaken (read 1 2 0 4)).wf = true ∧
    (Instr.transactionTaken { read 1 2 0 4 with data := [7] }).wf = false := by decide +kernel

theorem test_wf_write_beats : (Instr.transactionTaken (write 1 2 0 4)).wf = true ∧
    (Instr.transactionTaken { write 1 2 0 4 with data := [7, 7, 7] }).wf = false := by decide +kernel

theorem test_wf_error_completion : (Instr.completion 3 .ok [7]).wf = true ∧
    (Instr.completion 3 .error []).wf = true ∧ (Instr.completion 3 .error [7]).wf = false := by decide +kernel

theorem test_wf_blocks : (Instr.writeGlobal 0 (List.replicate 13 0)).wf = true ∧
    (Instr.writeGlobal 0 (List.replicate 12 0)).wf = false ∧
    (Instr.writeRequester 0 0 (List.replicate 10 0)).wf = true ∧
    (Instr.writeRequester 0 0 (List.replicate 11 0)).wf = false ∧
    (Instr.writeRange 0 0 (List.replicate 14 0)).wf = true ∧
    (Instr.writeRange 0 0 (List.replicate 13 0)).wf = false := by decide +kernel

theorem test_wf_refused_transfer :
    (Instr.commandFrameRefused [0x5A, 1, 2]).wf = true ∧ (Instr.commandFrameRefused []).wf = false ∧
    (Instr.commandFrameRefused [0x33, 1, 2]).wf = false ∧
    (Instr.commandFrameRefused [0x5A, 0x07, 0x02, 0x00, 0x2F, 0x6E]).wf = false := by decide +kernel

/-! ## Frames, byte by byte (R174, R175, R189, R190) -/

/-- The check value of R175. -/
theorem test_crc_check_string :
    crc16 [0x31, 0x32, 0x33, 0x34, 0x35, 0x36, 0x37, 0x38, 0x39] = 0x29B1 := by decide +kernel

theorem test_frame_read_status : checkFrame [0x07, 0x02, 0x00, 0x2F, 0x6E] = .command (.readStatus 7) := by
  decide +kernel

/-- The index comes before the selector (R190). -/
theorem test_frame_read_requester :
    checkFrame [0x09, 0x12, 0x02, 0x05, 0x01, 0xCE, 0x0B] = .command (.readRequester 9 5 1) := by decide +kernel

theorem test_frame_write_requester :
    checkFrame [0x10, 0x13, 0x0B, 0x05, 1, 1, 0, 40, 0, 10, 2, 1, 4, 0, 0x08, 0xBA] =
      .command (.writeRequester 0x10 5 [1, 1, 0, 40, 0, 10, 2, 1, 4, 0]) := by decide +kernel

theorem test_frame_commit_boundary : checkFrame [0x02, 0x20, 0x01, 0x00, 0xFF, 0xFF] = .frameError ∧
    checkFrame [0x01, 0x42, 0x01, 0x04, 0xF2, 0x0C] = .command (.readLog 1 4) := by decide +kernel

/-- Step 3: a good CRC and a code that is not one of the 20; step 4: COMMIT without its parameter. -/
theorem test_frame_unknown_and_misfit : checkFrame [0x01, 0x03, 0x00, 0xAE, 0xFF] = .unknownCommand ∧
    checkFrame [0x02, 0x20, 0x00, 0xA4, 0x1A] = .frameError := by decide +kernel

/-- 59 is the largest parameter length that fits a frame of 64 bytes (R190). -/
theorem test_frame_longest : lengthConsistent ([0x02, 0x77, 59] ++ List.replicate 59 0 ++ [0xA9, 0xEB]) = true ∧
    lengthConsistent ([0x02, 0x20, 60] ++ List.replicate 60 0 ++ [0xE9, 0x1F]) = false := by decide +kernel

/-- The parameter lengths of the table of R190. -/
theorem test_parameter_lengths :
    ([0x01, 0x02, 0x10, 0x11, 0x12, 0x13, 0x14, 0x15, 0x16, 0x20, 0x21, 0x22, 0x23, 0x30, 0x31, 0x40, 0x41, 0x42,
      0x50, 0x51] : List Byte).map parameterLength =
      [0, 0, 1, 13, 2, 11, 2, 15, 0, 1, 0, 0, 0, 1, 1, 1, 0, 1, 1, 1].map some ∧
    parameterLength 0x00 = none := by decide +kernel

/-- The global block of R191, most significant bytes first. -/
theorem test_global_block :
    globalOfBytes [1, 0x03, 0xE8, 1, 0x00, 0x64, 0x03, 0x20, 0x00, 0xC8, 0x03, 0xE8, 3] =
      some { mode := .regulating, period := 1000, syncEnable := true, syncPhase := 100, syncGuard := 800,
             completionLimit := 200, drainLimit := 1000, holdAgeLimit := 3 } ∧
    globalOfBytes [2, 0x03, 0xE8, 1, 0x00, 0x64, 0x03, 0x20, 0x00, 0xC8, 0x03, 0xE8, 3] = none ∧
    globalOfBytes [1, 0x00, 0x0F, 1, 0x00, 0x64, 0x03, 0x20, 0x00, 0xC8, 0x03, 0xE8, 3] = none := by decide +kernel

/-- A base must end in 0x00, a limit in 0xFF, and a classes byte may be empty at write time (R191). -/
theorem test_range_block :
    rangeEntryOfBytes [1, 0, 0, 4, 0, 0, 0, 0, 4, 0xFF, 0xFF, 2, 2, 2] =
      some { valid := true, base := 0x40000, limit := 0x4FFFF, kinds := .write, classes := 2, action := .curb } ∧
    (rangeEntryOfBytes [1, 0, 0, 4, 0, 0, 0, 0, 4, 0xFF, 0xFF, 2, 0, 2]).isSome = true ∧
    rangeEntryOfBytes [1, 0, 0, 4, 0, 1, 0, 0, 4, 0xFF, 0xFF, 2, 2, 2] = none ∧
    rangeEntryOfBytes [1, 0, 0, 4, 0, 0, 0, 0, 4, 0xFF, 0xFE, 2, 2, 2] = none ∧
    rangeEntryOfBytes [1, 0, 0, 4, 0, 0, 0, 0, 4, 0xFF, 0xFF, 2, 16, 2] = none := by decide +kernel

/-- The 16 bytes of a MEMORY_ERROR record: fields present 0x17 (R193). -/
theorem test_incident_bytes :
    IncidentRecord.bytes { seq := 0x1234, window := 5, incident := .memoryError 6 30 3 0x7F0 } =
      [0x12, 0x34, 0x0B, 0x00, 0x05, 0x17, 6, 30, 0, 0, 0, 0x07, 0xF0, 0, 3, 0] := by decide +kernel

/-- The 15 bytes of a slot record: a piece that has lost its partner keeps its role and carries 0xFF (R192). -/
theorem test_slot_bytes :
    Slot.bytes (.abandoned { requester := 6, tag := 30, kind := .read, address := 0x0102030400, length := 3,
                             role := .second, partner := none, ticks := 0x1234, outcome := .timeout,
                             readData := none }) =
      [3, 6, 30, 1, 1, 2, 3, 4, 0, 3, 3, 0xFF, 0x12, 0x34, 3] := by decide +kernel

/-- The deepest debt as a 4-byte two's-complement value (R189). -/
theorem test_balance_bytes : balanceBytes (-15) = [0xFF, 0xFF, 0xFF, 0xF1] := by decide +kernel

/-! ## The time path -/

/-- The timer of the worked example on syncs against the guard (section 1.1). -/
def clock (counter elapsed number : Nat) : State :=
  { withGlobal { GlobalBlock.default with syncEnable := true, syncPhase := 100, syncGuard := 800 } State.reset with
    timer := { counter := counter, elapsed := elapsed, windowNumber := BitVec.ofNat 16 number } }

/-- Row "1 tick": the counter reaches 1000, window end by expiry. -/
theorem test_tick_reaches_the_period :
    (after .windowEndByExpiry (after .tick (clock 999 899 21))).timer =
      { counter := 0, elapsed := 0, windowNumber := 22 } := by decide +kernel

/-- Rows "500 ticks" and "Sync": 500 is below the guard of 800. -/
theorem test_sync_early : (after .sync (clock 500 500 20)).timer = (clock 500 500 20).timer ∧
    (after .sync (clock 500 500 20)).log.records = [{ seq := 0, window := 20, incident := .syncEarly }] := by
  decide +kernel

/-- Row "Sync" at 900: window 21 opens with the sync phase. -/
theorem test_sync_honoured :
    (after .sync (clock 900 900 20)).timer = { counter := 100, elapsed := 0, windowNumber := 21 } := by
  decide +kernel

/-- Requester 5 of section 1.3 with its last balance and beats. -/
def five (b : Int) (beats : Nat) : State :=
  (withEntry 5 (entry 0 40 10 0 4 0) (withGlobal regulating State.reset)).setAccount 5
    { Account.zero with balance := b, beatsThis := beats }

def atPeriod (s : State) : State := { s with timer := { s.timer with counter := 1000 } }

/-- Windows 7 and 8 of section 1.3: a debt of 8 is paid, and 2 beats above the carry limit are lost. -/
theorem test_window_end_refills :
    (after .windowEndByExpiry (atPeriod (five (-8) 48))).account 5 =
      { Account.zero with balance := 32, beatsLast := 48 } ∧
    (after .windowEndByExpiry (atPeriod (five 12 20))).account 5 =
      { Account.zero with balance := 50, beatsLast := 20 } := by decide +kernel

/-- The held entry 2/2 of section 3.7 at the window end to window 62. -/
def threeHeld : State :=
  { withEntry 2 (entry 5 8 0 0 4 0) (withEntry 7 (entry 1 16 0 0 4 0) (withEntry 14 (entry 6 12 0 0 4 0)
      (withGlobal { regulating with holdAgeLimit := 3 } State.reset))) with
    hold := [held (read 2 2 0 4) 3, held (read 7 3 0 4) 1, held (read 14 3 0 4) 1] }

/-- Entry 2/2 reaches the limit of 3 and is answered RETRY; the others stay (section 3.7). -/
theorem test_hold_expiry :
    (after .holdExpiry threeHeld).hold = [held (read 7 3 0 4) 1, held (read 14 3 0 4) 1] ∧
    (after .holdExpiry threeHeld).out.responses = [plainResponse 2 2 .retry] ∧
    (after .holdExpiry threeHeld).log.records = [{ seq := 0, window := 0, incident := .holdExpired 2 2 }] := by
  decide +kernel

/-- Requester 22 of section 5.7 before the window end to 205. -/
def escalating : State :=
  { (withBalance 22 28 (withEntry 22 (entry 3 32 0 2 4 3) (withGlobal regulating State.reset))).setRestraint 22
      { standing := .curbed, strikes := 2, curbHit := true } with
    hold := [held (read 22 17 0x100300 2) 1]
    timer := { counter := 1000, elapsed := 1000, windowNumber := 204 } }

/-- Requester 22 is escalated: ISOLATED, curb-hit clear, strikes 3, tag 17 answered DENIED, ESCALATED recorded. -/
theorem test_window_end_escalates :
    (after .windowEndByExpiry escalating).restraint 22 = { standing := .isolated, strikes := 3, curbHit := false } ∧
    (after .windowEndByExpiry escalating).out.responses = [plainResponse 22 17 .denied] ∧
    (after .windowEndByExpiry escalating).log.records =
      [{ seq := 0, window := 205, incident := .escalated 22 }] ∧
    ((after .windowEndByExpiry escalating).account 22).balance = 32 := by decide +kernel

/-! ## Admission, release and issue -/

/-- Requester 9 of section 2.9 with a balance and held entries. -/
def nine (b : Int) (hold : List HeldEntry) : State :=
  { withRange 0 { valid := true, base := 0x40000, limit := 0x4FFFF, kinds := .write, classes := 2, action := .curb }
      (withBalance 9 b (withEntry 9 (entry 2 24 0 1 2 0) (withGlobal regulating State.reset))) with hold := hold }

/-- Rows 1 and 3: READ tag 1 of 4 beats is forwarded and charged; READ tag 3 at −6 is held. -/
theorem test_take_forward_and_hold :
    ((after (.transactionTaken (read 9 1 0x10000 4)) (nine 6 [])).account 9) =
      { Account.zero with balance := 2, beatsThis := 4 } ∧
    (after (.transactionTaken (read 9 1 0x10000 4)) (nine 6 [])).issueQueue = [read 9 1 0x10000 4] ∧
    (after (.transactionTaken (read 9 3 0x10100 2)) (nine (-6) [])).hold = [held (read 9 3 0x10100 2) 0] := by
  decide +kernel

/-- The hold age limit is 1 and requester 9's last held entry has just been aged to it. -/
def expiring : State :=
  withGlobal { regulating with holdAgeLimit := 1 } (nine (-6) [held (read 9 1 0x10000 4) 1])

/-- An arrival and that expiry, in both orders (R41): the arrival of age 0 stays, or it finds no held entry and, at a
balance of −6, is held alone; the entry of age 1 expires either way. An arrival before the window end is aged (R49). -/
theorem test_arrival_and_expiry :
    (after .holdExpiry (after (.transactionTaken (read 9 3 0x10100 2)) expiring)).hold =
      [held (read 9 3 0x10100 2) 0] ∧
    (after (.transactionTaken (read 9 3 0x10100 2)) expiring).hold =
      [held (read 9 1 0x10000 4) 1, held (read 9 3 0x10100 2) 0] ∧
    (after (.transactionTaken (read 9 3 0x10100 2)) (after .holdExpiry expiring)).hold =
      [held (read 9 3 0x10100 2) 0] ∧
    (after .holdExpiry (after .windowEndByExpiry
      (atPeriod (withGlobal { regulating with holdAgeLimit := 1 } (nine (-6) [held (read 9 3 0x10100 2) 0]))))).hold =
      [] := by decide +kernel

/-- Rows 6 and 8: READ tag 5 at 0x10008 is MALFORMED; WRITE tag 4 at 0x40100 is RANGE_CURB by entry 0. -/
theorem test_take_refusals :
    (after (.transactionTaken (read 9 5 0x10008 1)) (nine (-6) [])).log.records =
      [{ seq := 0, window := 0, incident := .malformed 9 5 0x10008 }] ∧
    (after (.transactionTaken (write 9 4 0x40100 4)) (nine (-6) [])).log.records =
      [{ seq := 0, window := 0, incident := .rangeCurb 9 4 0x40100 0 }] ∧
    (after (.transactionTaken (write 9 4 0x40100 4)) (nine (-6) [])).restraint 9 =
      { standing := .curbed, strikes := 0, curbHit := true } := by decide +kernel

/-- The list of window 61 in section 3.7, with the refilled balances. -/
def sixHeld : State :=
  { withBalance 2 2 (withBalance 7 16 (withBalance 14 9 threeHeld)) with
    hold := [held (read 7 1 0 4) 1, held (read 2 1 0 8) 2, held (read 14 1 0 8) 1, held (read 2 2 0 4) 2,
             held (read 7 2 0 16) 1, held (read 14 2 0 6) 1] }

/-- Release 1 of section 3.7 selects 14/1, which leaves requester 14 a balance of 1. -/
theorem test_release_by_level :
    (after .heldEntryRelease sixHeld).issueQueue = [read 14 1 0 8] ∧
    (after .heldEntryRelease sixHeld).hold = sixHeld.hold.eraseIdx 2 ∧
    ((after .heldEntryRelease sixHeld).account 14).balance = 1 := by decide +kernel

/-- R102, two free entries and two claims: after release 1 the waiting request keeps the entry it was granted, and
requester 7's eligible entry is not released into it. -/
theorem test_release_leaves_granted_entry :
    let s := { sixHeld with issueQueue := List.replicate 6 (read 1 1 0 1), uPort := .waiting }
    (after .heldEntryRelease s).issueQueue.length = 7 ∧ (after .heldEntryRelease s).uPortGranted = true ∧
    (after .heldEntryRelease (after .heldEntryRelease s)).issueQueue.length = 7 := by decide +kernel

/-- The transaction 6/20 of section 6.5 at the head, slots 4 and 15 FREE and the others not. -/
def splitHead : State :=
  { State.reset with
    issueQueue := [write 6 20 2032 4, read 9 3 0x10000 2]
    slots := Table.remap State.reset.slots fun i _ =>
      if i = 4 ∨ i = 15 then .free else .abandoned (piece (read 2 9 0 1) .whole 0 1 none 0) }

/-- 6/20 is issued: FIRST at 2032, 1 beat, in slot 4; SECOND at 2048, 3 beats, in slot 15 (section 6.5). -/
theorem test_issue_split :
    (after .issue splitHead).slot 4 = .issued (piece (write 6 20 2032 4) .first 2032 1 (some 15) 0) ∧
    (after .issue splitHead).slot 15 = .issued (piece (write 6 20 2032 4) .second 2048 3 (some 4) 0) ∧
    (after .issue splitHead).out.pieces =
      [{ slot := 4, kind := .write, address := 2032, length := 1, data := [1] },
       { slot := 15, kind := .write, address := 2048, length := 3, data := [1, 1, 1] }] := by decide +kernel

/-- Rows of the table of section 6.2: 1792 for 16 beats is WHOLE, 1808 for 16 beats splits 15 and 1. -/
theorem test_pieces : crosses (read 0 0 1792 16) = false ∧ crosses (read 0 0 1808 16) = true ∧
    (firstPiece (read 0 0 1808 16)).length = 15 ∧ (secondPiece (read 0 0 1808 16)).length = 1 ∧
    (secondPiece (read 0 0 1808 16)).address = 2048 := by decide +kernel

/-! ## Completions and timeouts -/

/-- Slots 3 and 8 of section 7.8, with requester 6's READ tag 30. -/
def lostPiece (x y : Slot) : State :=
  ((withGlobal { GlobalBlock.default with completionLimit := 200 } State.reset).setSlot 3 x).setSlot 8 y

def firstThree (ticks : Nat) : SlotRecord := piece (read 6 30 2032 4) .first 2032 1 (some 8) ticks
def secondEight (ticks : Nat) : SlotRecord := piece (read 6 30 2032 4) .second 2048 3 (some 3) ticks
def waitingEight : SlotRecord := { secondEight 40 with outcome := .ok, readData := some [1, 2, 3] }

/-- Row "Completion, slot 8, OK": DONE_WAITING with its ticks and data, no response. -/
theorem test_completion_waits :
    (after (.completion 8 .ok [1, 2, 3]) (lostPiece (.issued (firstThree 40)) (.issued (secondEight 40)))).slot 8 =
      .doneWaiting waitingEight ∧
    (after (.completion 8 .ok [1, 2, 3])
      (lostPiece (.issued (firstThree 40)) (.issued (secondEight 40)))).out.responses = [] := by decide +kernel

/-- Section 7.9: the new piece of 2 beats takes the old piece's beat and a beat of zeros. -/
theorem test_completion_fills_with_zeros :
    (after (.completion 5 .ok [0x77]) (State.reset.setSlot 5 (wholeSlot (read 4 1 0x20000 2) 0))).out.responses =
      [{ requester := 4, tag := 1, outcome := .done, data := [0x77, 0] }] := by decide +kernel

/-- The state at slot 3's 200th tick, its comparison still to be taken. -/
def timingOut : State := { lostPiece (.issued (firstThree 200)) (.doneWaiting waitingEight) with timeoutCheck := some 200 }

/-- Row "160 ticks": slot 3 ABANDONED, slot 8 FREE, FAULT, COMPLETION_TIMEOUT recorded, QUARANTINE latched. -/
theorem test_timeout :
    (after .completionTimeout timingOut).slot 3 =
      .abandoned { firstThree 200 with outcome := .timeout, partner := none } ∧
    (after .completionTimeout timingOut).slot 8 = .free ∧
    (after .completionTimeout timingOut).out.responses = [plainResponse 6 30 .fault] ∧
    (after .completionTimeout timingOut).log.records =
      [{ seq := 0, window := 0, incident := .completionTimeout 6 30 3 }] ∧
    (after .completionTimeout timingOut).latched.quarantine = true := by decide +kernel

/-- R129, R151: a limit of 1 that a BOUNDARY commit applies at the window end of the same tick does not time out slot 3
at that tick, whichever of the two steps is first; at the next tick it does. -/
theorem test_timeout_limit_from_next_tick :
    let s := { lostPiece (wholeSlot (read 6 30 0 4) 5) .free with
      staged := { Configuration.default with global := { GlobalBlock.default with completionLimit := 1 } }
      commit := { State.reset.commit with state := .armed .boundary }
      timer := { counter := 999, elapsed := 999, windowNumber := 0 } }
    ((after .completionTimeout (after .windowEndByExpiry (after .tick s))).slot 3).isIssued = true ∧
    ((after .windowEndByExpiry (after .completionTimeout (after .tick s))).slot 3).isIssued = true ∧
    ((after .completionTimeout (after .tick (after .windowEndByExpiry (after .tick s)))).slot 3).isAbandoned = true := by
  decide +kernel

/-! ## Drains, restart and reset -/

/-- Section 6.7, on its tick: slots 0 to 2 ISSUED, 3 to 15 ABANDONED, three entries queued, requester 30 absent. -/
def forced : State :=
  { withEntry 30 absent State.reset with
    issueQueue := [read 5 40 0 1, read 8 2 2032 4, read 30 7 0 1]
    restart := .draining 500 500
    forcedEnd := true
    slots := Table.remap State.reset.slots fun i _ =>
      if i.val < 3 then wholeSlot (read 1 (BitVec.ofNat 8 i.val) 0 1) 9
      else .abandoned (piece (read 2 9 0 1) .whole 0 1 none 0) }

/-- RESTART_FORCED with a count of 3, every slot ABANDONED, the queue empty (section 6.7); with no slot ISSUED the
responses are the RETRY of the three entries in queue order. -/
theorem test_forced_end :
    (after .restartForcedEnd { forced with issueQueue := [] }).out.responses =
      [plainResponse 1 0 .fault, plainResponse 1 1 .fault, plainResponse 1 2 .fault] ∧
    (after .restartForcedEnd { forced with issueQueue := [] }).log.records =
      [{ seq := 0, window := 0, incident := .restartForced 3 }] ∧
    (∀ i : SlotId, ((after .restartForcedEnd { forced with issueQueue := [] }).slot i).isAbandoned = true) ∧
    (after .restartForcedEnd { forced with slots := State.reset.slots }).out.responses =
      [plainResponse 5 40 .retry, plainResponse 8 2 .retry, plainResponse 30 7 .retry] := by decide +kernel

/-- R158, completion first: the drain is complete when the tick reaches the limit, so the end is normal and
RESTART_FORCED is not recorded. -/
theorem test_forced_end_not_after_completion :
    let s := after .tick (after (.completion 3 .ok [])
      { State.reset.setSlot 3 (wholeSlot (write 1 0 0 1) 9) with restart := .draining 499 500 })
    (after .restartForcedEnd s).restart = .draining 500 500 ∧ (after .restartForcedEnd s).log.records = [] ∧
    (after .restartNormalEnd s).restart = .idle ∧ (after .restartNormalEnd s).log.records = [] := by decide +kernel

/-- R136, timeout first on the limit's tick: it abandons the last ISSUED slot, and the forced end follows and does not count
it, in the queue's order or on its own; RESTART_NORMAL_END is not the end. -/
theorem test_forced_end_after_timeout :
    let s := after .completionTimeout (after .tick
      { (withGlobal { GlobalBlock.default with completionLimit := 10 } State.reset).setSlot 3
          (wholeSlot (write 1 0 0 1) 9) with
        restart := .draining 499 500, timer := { counter := 999, elapsed := 999, windowNumber := 0 } })
    s.drained = true ∧ (after .restartForcedEnd s).restart = .idle ∧
    ((after .restartForcedEnd s).log.records.map IncidentRecord.incident) =
      [.completionTimeout 1 0 3, .restartForced 0] ∧
    ((after .sync s).log.records.map IncidentRecord.incident) = [.completionTimeout 1 0 3, .restartForced 0] ∧
    (after .restartNormalEnd s).restart = .draining 500 500 := by decide +kernel

/-- R112 beside R127: under a limit of 1 a piece issued just before a tick counts it and times out, one issued after it does
not. -/
theorem test_timeout_of_new_piece :
    let s := { withGlobal { GlobalBlock.default with completionLimit := 1 } State.reset with
      issueQueue := [write 1 0 0 1] }
    ((after .completionTimeout (after .tick (after .issue s))).slot 0).isAbandoned = true ∧
    ((after .issue (after .tick s)).slot 0).isIssued = true := by decide +kernel

/-- A drain of nothing in flight, before its window end by commit (R149) and its abandonment (R150). -/
def drainingCommit (ticks : Nat) : State :=
  { State.reset with
    staged := { Configuration.default with global := regulating }
    commit := { state := .draining ticks 4, pause := true, outcome := .none, outcomeWindow := 0 } }

theorem test_drained_apply :
    (after .drainedCommitApply (drainingCommit 1)).active.global = regulating ∧
    (after .drainedCommitApply (drainingCommit 1)).commit =
      { state := .idle, pause := false, outcome := .applied, outcomeWindow := 1 } ∧
    (after .drainedCommitApply (drainingCommit 1)).timer.windowNumber = 1 := by decide +kernel

theorem test_commit_abandoned :
    (after .commitAbandoned (drainingCommit 4)).commit =
      { state := .idle, pause := false, outcome := .abandoned, outcomeWindow := 0 } ∧
    (after .commitAbandoned (drainingCommit 4)).active = Configuration.default ∧
    (after .commitAbandoned (drainingCommit 4)).latched.commitFailed = true := by decide +kernel

/-- The restart values of the accounts: the allowance for requester 5 (R18). -/
theorem test_restart_end :
    (after .restartNormalEnd { five 12 20 with restart := .draining 1 9 }).account 5 =
      { Account.zero with balance := 40 } ∧
    (after .restartNormalEnd { five 12 20 with restart := .draining 1 9 }).latched.restartDone = true := by
  decide +kernel

theorem test_reset : after .reset { sixHeld with pending := [.tick] } = { State.reset with pending := [.tick] } := by
  decide +kernel

/-- The part while the host has shifted in these bytes. -/
def receiving (bytes : List Byte) : State :=
  { sixHeld with link := { State.reset.link with select := .receiving bytes } }

/-- R188: a reset within a COMMAND transfer; the rest of that transfer is not taken, and the next ANSWER_READ returns
NO_ANSWER with sequence number and command code 0. -/
theorem test_reset_within_a_transfer :
    let s := after .reset (receiving [0x5A, 0x02, 0x20])
    s.out.shifted = [0xFF, 0xFF, 0xFF] ∧ (after (.commit 2 0) s).commit.state = .idle ∧
    (after (.commit 2 0) s).link = State.reset.link ∧
    (after (.answerRead 6) (after (.commit 2 0) s)).out.shifted = [0xFF, 0x00, 0x00, 0x22, 0x00, 0xE4, 0x44] := by
  decide +kernel

/-! ## The management link -/

/-- The NO_ANSWER frame after a full reset: sequence number and command code 0 (R173), then fill bytes. -/
theorem test_answer_read :
    (after (.answerRead 8) State.reset).out.shifted = [0xFF, 0x00, 0x00, 0x22, 0x00, 0xE4, 0x44, 0xFF, 0xFF] := by
  decide +kernel

/-- The frame of an answer BAD_CONFIG for requester 31 (R176, R183, R190). -/
theorem test_answer_bytes :
    Answer.bytes { seq := 5, code := 0x20, status := .badConfig, results := [1, 31] } =
      [0x05, 0x20, 0x14, 0x02, 0x01, 0x1F] ++ crcBytes [0x05, 0x20, 0x14, 0x02, 0x01, 0x1F] := by decide +kernel

theorem test_get_identity :
    ((after (.getIdentity 4) State.reset).link.answer.map fun a => a.results.take 4) =
      some [0x57, 0x4C, 0x01, 0xB0] := by decide +kernel

/-- The sizes of chapter 11: 20, 13, 26, 14 and 240 bytes. -/
theorem test_result_sizes :
    ([Instr.readStatus 0, .readGlobal 0 0, .readRequester 0 31 1, .readRange 0 15 0, .readSlots 0, .readHold 0 2].map
      fun c => (after c sixHeld).link.answer.map fun a => a.results.length) =
      [20, 13, 26, 14, 240, 9].map some := by decide +kernel

theorem test_writes :
    (after (.writeGlobal 1 [1, 0x03, 0xE8, 1, 0, 0x64, 0x03, 0x20, 0, 0xC8, 0x03, 0xE8, 3])
      State.reset).staged.global.syncGuard = 800 ∧
    ((after (.writeRequester 1 31 [1, 1, 0, 40, 0, 10, 2, 1, 4, 0])
      State.reset).staged.requesters[31]).allowance = 40 ∧
    ((after (.writeRange 1 15 [1, 0, 0, 4, 0, 0, 0, 0, 4, 0xFF, 0xFF, 2, 2, 2])
      State.reset).staged.ranges[15]).action = .curb := by decide +kernel

/-- A staged entry 31 that is regulated with an allowance of 0 fails the check of R145. -/
def badStaged : State :=
  { State.reset with staged := (withEntry 31 (entry 0 0 0 0 0 0) State.reset).active }

theorem test_commit :
    (after (.commit 1 0) State.reset).commit.state = .armed .boundary ∧
    ((after (.commit 1 0) badStaged).link.answer.map fun a => (a.status, a.results)) =
      some (.badConfig, [1, 31]) := by decide +kernel

theorem test_cancel_and_copy :
    (after (.cancelCommit 1) (drainingCommit 1)).commit.outcome = .cancelled ∧
    (after (.copyActiveToStaged 1) (five 0 0)).staged = (five 0 0).active ∧
    ((after (.copyActiveToStaged 1) (drainingCommit 1)).link.answer.map fun a => a.status) = some .frozen := by
  decide +kernel

theorem test_restart :
    (after (.restart 1) { sixHeld with issueQueue := [read 1 1 0 1] }).restart = .draining 0 1000 ∧
    (after (.restart 1) { sixHeld with issueQueue := [read 1 1 0 1] }).out.responses =
      [plainResponse 7 1 .retry, plainResponse 2 1 .retry, plainResponse 14 1 .retry, plainResponse 2 2 .retry,
       plainResponse 7 2 .retry, plainResponse 14 2 .retry] := by decide +kernel

/-- Section 7.9: the answer of RECOVER_DOWNSTREAM carries count 1. -/
theorem test_recover :
    ((after (.recoverDownstream 1) (State.reset.setSlot 5 (.abandoned (piece (read 2 9 0x8000 1) .whole 0x8000 1 none
      7)))).link.answer.map fun a => a.results) = some [1] := by decide +kernel

theorem test_isolate_and_release :
    (after (.isolate 1 7) sixHeld).out.responses = [plainResponse 7 1 .denied, plainResponse 7 2 .denied] ∧
    (after (.isolate 1 7) sixHeld).log.records = [{ seq := 0, window := 0, incident := .managedIsolate 7 }] ∧
    (after (.release 1 9) (withStanding 9 .curbed (nine 0 []))).restraint 9 = Restraint.clean := by decide +kernel

/-- Section 9.5, row "READ_LOG, count 4": 28 records left, the first 1004, and lost count 3 reported. -/
theorem test_read_log :
    ((after (.readLog 1 4) { State.reset with log := { logOf 32 1032 with lost := 3 } }).log.records.map
      IncidentRecord.seq).take 1 = [1004] ∧
    ((after (.readLog 1 4) { State.reset with log := { logOf 32 1032 with lost := 3 } }).link.answer.map fun a =>
      (a.results.length, a.results.drop 65)) = some (67, [28, 3]) := by decide +kernel

/-- The part of section 9.5 before the row "ACK_ALERT". -/
def alerted : State :=
  { State.reset with log := logOf 29 1033, latched := { LatchedCauses.none with quarantine := true, logLost := true } }

/-- Row "ACK_ALERT": the answer carries LOG_PENDING alone, and ALERT goes inactive under the mask of the example. -/
theorem test_ack_alert :
    ((after (.ackAlert 1 0x62) alerted).link.answer.map fun a => a.results) = some [0x40] ∧
    (after (.setAlertMask 1 0x2B) alerted).alertLine = true ∧
    (after (.ackAlert 1 0x62) (after (.setAlertMask 1 0x2B) alerted)).alertLine = false := by decide +kernel

/-- A refused frame echoes what it received; a transfer with another first byte changes nothing (R174, R190). -/
theorem test_command_frame_refused :
    ((after (.commandFrameRefused [0x5A, 0x01, 0x03, 0x00, 0xAE, 0xFF]) State.reset).link.answer.map fun a =>
      (a.seq, a.code, a.status)) = some (1, 3, .unknownCommand) ∧
    (after (.commandFrameRefused [0x5B, 0x01, 0x03, 0x00, 0xAE, 0xFF]) State.reset).link = State.reset.link := by
  decide +kernel

/-! ## Witnesses: for each statement with hypotheses, a state and operands that meet them, clause by clause -/

/-- `ResetRestoresFullResetValues`, `TickIsCountedEverywhere`, `IdentityStatusAndSlotsAreRead`: nothing is due; the
second statement also with an answer in the store, and the first within each kind of select period. -/
theorem test_meets_arrivalReady : expiring.arrivalReady = true ∧ expiring.holdClosed = false ∧
    expiring.uPortGranted = true ∧ (expiring.heldCount 9 < (expiring.entry 9).holdShare) := by decide +kernel

theorem test_meets_settled : State.reset.settled = true ∧ sixHeld.settled = true ∧ sixHeld.linkReady = true ∧
    (after (.readStatus 3) State.reset).settled = true ∧ sixHeld.link.select = .released ∧
    (receiving []).settled = true ∧ (receiving [0xA5, 0]).settled = true ∧
    (after .reset (receiving [])).settled = true ∧ (after .reset (receiving [])).link.select = .ignored := by
  decide +kernel

theorem test_meets_WindowEndByExpiryEndsTheWindow :
    (atPeriod (five (-8) 48)).holdClosed = true ∧
    (atPeriod (five (-8) 48)).active.global.period ≤ (atPeriod (five (-8) 48)).timer.counter := by decide +kernel

/-- Sync disabled; enabled with the elapsed count at the guard, 800; enabled one below it. -/
theorem test_meets_SyncActsByItsThreeCases :
    (State.reset.settled = true ∧ State.reset.active.global.syncEnable = false) ∧
    ((clock 800 800 1).settled = true ∧ (clock 800 800 1).active.global.syncEnable = true ∧
      (clock 800 800 1).active.global.syncGuard ≤ (clock 800 800 1).timer.elapsed) ∧
    ((clock 799 799 1).settled = true ∧ (clock 799 799 1).active.global.syncEnable = true ∧
      (clock 799 799 1).timer.elapsed < (clock 799 799 1).active.global.syncGuard) := by decide +kernel

/-- The second timer of the worked example: counter 999, guard 0 (R4). -/
def together : State :=
  { withGlobal { GlobalBlock.default with syncEnable := true, syncPhase := 100 } State.reset with
    timer := { counter := 999, elapsed := 999, windowNumber := 30 } }

theorem test_meets_TickAndSyncTogetherInBothOrders :
    together.settled = true ∧ together.commit.state = .idle ∧ together.restart = .idle ∧
    together.active.global.syncEnable = true ∧ together.active.global.syncGuard = 0 ∧
    together.active.global.holdAgeLimit = 0 ∧ together.active.global.completionLimit = 0 ∧
    together.active.global.syncPhase + 1 < together.active.global.period ∧
    together.timer.counter + 1 = together.active.global.period := by decide +kernel

/-- A present regulated requester with balance 0, and one in debt. -/
theorem test_meets_RefillAtEveryWindowEnd :
    ((((five 0 0).windowEnd .expiry).entry 5).present = true ∧
      (((five 0 0).windowEnd .expiry).entry 5).regulated = true ∧ 0 ≤ ((five 0 0).account 5).balance) ∧
    ((((five (-1) 0).windowEnd .expiry).entry 5).present = true ∧
      (((five (-1) 0).windowEnd .expiry).entry 5).regulated = true ∧ ((five (-1) 0).account 5).balance < 0) := by
  decide +kernel

/-- Requester 5 at its largest spending: 65 beats and a balance of −15 (section 1.3). -/
theorem test_meets_WindowTrafficIsBounded :
    BalanceLaw (five (-15) 65) ∧ SpendLaw (five (-15) 65) ∧ (five (-15) 65).active.global.mode = .regulating ∧
    ((five (-15) 65).entry 5).present = true ∧ ((five (-15) 65).entry 5).regulated = true := by
  unfold BalanceLaw SpendLaw
  decide +kernel

theorem test_meets_DrainedCommitIsApplied :
    (drainingCommit 1).tickClosed = true ∧ (drainingCommit 1).commit.state = .draining 1 4 ∧
    (drainingCommit 1).issueQueue = [] ∧
    ∀ (i : SlotId) (q : SlotRecord), (drainingCommit 1).slot i ≠ .issued q :=
  ⟨by decide +kernel, by decide +kernel, by decide +kernel, not_issued_of (by decide +kernel)⟩

theorem test_meets_CommitIsAbandonedAtDrainLimit :
    (drainingCommit 4).holdClosed = true ∧ (drainingCommit 4).commit.state = .draining 4 4 ∧ 4 ≤ 4 := by
  decide +kernel

def drainingRestart : State := { five 12 20 with restart := .draining 1 9 }

/-- The same drain, complete at the tick that reached the limit. -/
def drainedAtLimit : State := { five 12 20 with restart := .draining 9 9 }

theorem test_meets_RestartEndsWhenDrained :
    (drainingRestart.tickClosed = true ∧ drainingRestart.restart = .draining 1 9 ∧
      drainingRestart.forcedEnd = false ∧ drainingRestart.issueQueue = [] ∧
      ∀ (i : SlotId) (q : SlotRecord), drainingRestart.slot i ≠ .issued q) ∧
    ({ drainedAtLimit with forcedEnd := true } : State).tickClosed = true :=
  ⟨⟨by decide +kernel, by decide +kernel, by decide +kernel, by decide +kernel, not_issued_of (by decide +kernel)⟩,
    by decide +kernel⟩

/-- With the window end of the tick taken, with it still due, and with the drain complete. -/
theorem test_meets_RestartForcedEndEmptiesThePath :
    (PairLaw forced ∧ forced.holdClosed = true ∧ forced.restart = .draining 500 500 ∧ forced.forcedEnd = true) ∧
    (PairLaw (atPeriod forced) ∧ (atPeriod forced).holdClosed = true ∧
      (atPeriod forced).active.global.period ≤ (atPeriod forced).timer.counter) ∧
    (drainedAtLimit.holdClosed = true ∧ PairLaw drainedAtLimit ∧ drainedAtLimit.restart = .draining 9 9 ∧
      drainedAtLimit.forcedEnd = false) :=
  ⟨⟨PairLaw.of_agrees (by decide +kernel), by decide +kernel, by decide +kernel, by decide +kernel⟩,
    ⟨PairLaw.of_agrees (by decide +kernel), by decide +kernel, by decide +kernel⟩,
    by decide +kernel, PairLaw.of_agrees (by decide +kernel), by decide +kernel, by decide +kernel⟩

theorem test_meets_IdleStepsDoNothing :
    State.reset.pending = [] ∧ State.reset.settled = true ∧ State.reset.commit.state = .idle ∧
    State.reset.restart = .idle ∧ State.reset.issueQueue = [] ∧ State.reset.hold = [] := by decide +kernel

/-- The issue queue full; and its last entry met by a waiting request and a claim of the release unit (R102). -/
def full (n : Nat) (request : UPortRequest) : State :=
  { sixHeld with issueQueue := List.replicate n (read 1 1 0 1), uPort := request }

/-- A waiting request is granted an entry with two free, and with one free that the release unit does not claim; it is
not with the one claimed; a granted one has one or two free. -/
theorem test_meets_UPortTakesOnlyWhenGranted :
    (State.reset.arrivalReady = true ∧ State.reset.uPortGranted = true) ∧
    ((full 8 .none).arrivalReady = true ∧ (full 8 .none).uPortGranted = false) ∧
    ((full 7 .waiting).arrivalReady = true ∧ (full 7 .waiting).uPortGranted = false) ∧
    ((full 7 .none).arrivalReady = true ∧ (full 7 .none).uPortGranted = true) ∧
    ((full 6 .waiting).grantDue = true ∧ ({ full 7 .waiting with hold := [] } : State).grantDue = true) ∧
    ((full 7 .granted).settled = true ∧ (full 6 .granted).settled = true) := by decide +kernel

/-- The last byte of the address space is met; one beat more is malformed, as are 0 and 17 beats and address 8. -/
theorem test_meets_FirstThreeStepsRefuse :
    ((nine 6 []).arrivalReady = true ∧ (nine 6 []).uPortGranted = true ∧ Malformed (read 9 1 (2 ^ 40 - 16) 2) ∧
      Malformed (read 9 1 0 0) ∧ Malformed (read 9 1 0 17) ∧ Malformed (read 9 1 8 1)) ∧
    (¬ Malformed (read 7 1 (2 ^ 40 - 16) 1) ∧ sixHeld.uPortGranted = true ∧ LivePair sixHeld 7 1) ∧
    (forced.uPortGranted = true ∧ ({ forced with restart := .draining 1 2 } : State).arrivalReady = true ∧
      ¬ Malformed (read 9 1 0 16) ∧ ¬ LivePair { forced with restart := .draining 1 2 } 9 1) :=
  ⟨⟨by decide +kernel, by decide +kernel, (malformed_iff _).1 (by decide +kernel),
      (malformed_iff _).1 (by decide +kernel), (malformed_iff _).1 (by decide +kernel),
      (malformed_iff _).1 (by decide +kernel)⟩,
    ⟨wellFormed (by decide +kernel), by decide +kernel, (sixHeld.live_iff 7 1).1 (by decide +kernel)⟩,
    by decide +kernel, by decide +kernel, wellFormed (by decide +kernel), notLive (by decide +kernel)⟩

def tagSix : Transaction := read 9 6 0x10500 16

theorem test_meets_StandingDecidesInRegulatingMode :
    (¬ Malformed tagSix ∧ ¬ LivePair (withEntry 9 absent (nine 6 [])) 9 6 ∧
      (withEntry 9 absent (nine 6 [])).arrivalReady = true ∧ (withEntry 9 absent (nine 6 [])).uPortGranted = true ∧
      ((withEntry 9 absent (nine 6 [])).entry 9).present = false) ∧
    (¬ LivePair (withStanding 9 .isolated (nine 6 [])) 9 6 ∧
      ((withStanding 9 .isolated (nine 6 [])).entry 9).present = true ∧
      (withStanding 9 .isolated (nine 6 [])).arrivalReady = true ∧
      ((withStanding 9 .isolated (nine 6 [])).restraint 9).standing = .isolated) ∧
    (¬ LivePair (withStanding 9 .curbed (nine 6 [])) 9 6 ∧
      (withStanding 9 .curbed (nine 6 [])).arrivalReady = true ∧
      (withStanding 9 .curbed (nine 6 [])).active.global.mode = .regulating ∧
      ((withStanding 9 .curbed (nine 6 [])).restraint 9).standing = .curbed ∧
      RangePasses (withStanding 9 .curbed (nine 6 [])) tagSix) := by
  refine ⟨⟨wellFormed (by decide +kernel), notLive (by decide +kernel), by decide +kernel, by decide +kernel,
      by decide +kernel⟩, ⟨notLive (by decide +kernel), by decide +kernel, by decide +kernel, by decide +kernel⟩,
    notLive (by decide +kernel), by decide +kernel, by decide +kernel, by decide +kernel, Or.inl ?_⟩
  unfold Matches
  decide +kernel

/-- Requester 9 with entry 0 giving this action to its WRITEs in 0x40000 to 0x4FFFF. -/
def ranged (a : RangeAction) : State :=
  withRange 0 { valid := true, base := 0x40000, limit := 0x4FFFF, kinds := .write, classes := 2, action := a }
    (nine (-6) [held (read 9 3 0x10100 2) 0])

theorem reaches (a : RangeAction) (x : Transaction) (hx : malformed x = false)
    (hl : (ranged a).live x.requester x.tag = false) (hr : x.requester = 9) : ReachesRangeCheck (ranged a) x := by
  refine ⟨wellFormed hx, notLive hl, ?_, ?_, ?_, ?_⟩
  all_goals (try rw [hr]); cases a <;> decide +kernel

/-- Entry 0 decides a WRITE that ends on its first byte's beat and one on its last beat (R70 at both edges). -/
theorem test_meets_RangeDenyAndCurbRefuse :
    ((ranged .deny).arrivalReady = true ∧ (ranged .deny).uPortGranted = true ∧
      ReachesRangeCheck (ranged .deny) (write 9 4 0x3FFF0 2) ∧ Decides (ranged .deny) (write 9 4 0x3FFF0 2) 0 .deny) ∧
    ((ranged .curb).arrivalReady = true ∧ (ranged .curb).uPortGranted = true ∧
      ReachesRangeCheck (ranged .curb) (write 9 4 0x4FFF0 1) ∧
      Decides (ranged .curb) (write 9 4 0x4FFF0 1) 0 .curb) := by
  refine ⟨⟨by decide +kernel, by decide +kernel, reaches _ _ (by decide +kernel) (by decide +kernel) rfl, ?_⟩,
    by decide +kernel, by decide +kernel, reaches _ _ (by decide +kernel) (by decide +kernel) rfl, ?_⟩
  all_goals unfold Decides Matches; decide +kernel

theorem test_meets_RangeIsolateIsolatesAndFlushes :
    (ranged .isolate).arrivalReady = true ∧ (ranged .isolate).uPortGranted = true ∧
    ReachesRangeCheck (ranged .isolate) (write 9 4 0x40100 4) ∧
    Decides (ranged .isolate) (write 9 4 0x40100 4) 0 .isolate := by
  refine ⟨by decide +kernel, by decide +kernel, reaches _ _ (by decide +kernel) (by decide +kernel) rfl, ?_⟩
  unfold Decides Matches
  decide +kernel

theorem reachesHold (b : Int) (hold : List HeldEntry) (x : Transaction) (hx : malformed x = false)
    (hl : (nine b hold).live x.requester x.tag = false) (hr : x.requester = 9)
    (hp : (nine b hold).rangeCheck x = (.pass, none)) : ReachesHoldTest (nine b hold) x := by
  refine ⟨wellFormed hx, notLive hl, rfl, fun _ => ⟨?_, ?_, Or.inl fun n hn => ?_⟩⟩
  · rw [hr]; rfl
  · rw [hr]; rfl
  · have hits := (RangeEntry.hits_iff _ _ x (by
      by_contra h
      have : malformed x = true := (malformed_iff x).2 (Or.inr (Or.inl (by omega)))
      rw [this] at hx
      exact Bool.noConfusion hx)).2 hn
    have none : (nine b hold).decidingEntry x = none := by
      unfold State.rangeCheck at hp
      split at hp
      · simp at hp
      · assumption
    unfold State.decidingEntry at none
    have := List.find?_eq_none.1 none n (List.mem_finRange n)
    exact this hits

def share (k : Nat) : List HeldEntry := (List.range k).map fun t => held (read 9 (BitVec.ofNat 8 t) 0x10100 1) 0

/-- Held with no entry and with one entry of a share of 2; answered RETRY with two (section 2.9). -/
theorem test_meets_HeldOrAnsweredRetry :
    ((nine (-6) []).arrivalReady = true ∧ (nine (-6) []).uPortGranted = true ∧ ReachesHoldTest (nine (-6) []) tagSix ∧
      ToBeHeld (nine (-6) []) 9 ∧ (nine (-6) []).heldCount 9 < ((nine (-6) []).entry 9).holdShare) ∧
    (ReachesHoldTest (nine 6 (share 1)) tagSix ∧ ToBeHeld (nine 6 (share 1)) 9 ∧ (nine 6 (share 1)).hold.length < 48 ∧
      (nine 6 (share 1)).heldCount 9 < ((nine 6 (share 1)).entry 9).holdShare) ∧
    (ReachesHoldTest (nine 6 (share 2)) tagSix ∧ ToBeHeld (nine 6 (share 2)) 9 ∧
      ((nine 6 (share 2)).entry 9).holdShare ≤ (nine 6 (share 2)).heldCount 9) :=
  ⟨⟨by decide +kernel, by decide +kernel,
      reachesHold _ _ _ (by decide +kernel) (by decide +kernel) rfl (by decide +kernel),
      (State.toBeHeld_iff _ _).1 (by decide +kernel), by decide +kernel⟩,
    ⟨reachesHold _ _ _ (by decide +kernel) (by decide +kernel) rfl (by decide +kernel),
      (State.toBeHeld_iff _ _).1 (by decide +kernel), by decide +kernel, by decide +kernel⟩,
    reachesHold _ _ _ (by decide +kernel) (by decide +kernel) rfl (by decide +kernel),
    (State.toBeHeld_iff _ _).1 (by decide +kernel), by decide +kernel⟩

/-- A balance of 1 is in credit, 0 is not. -/
theorem test_meets_ForwardedWhenNotHeld :
    (nine 1 []).arrivalReady = true ∧ (nine 1 []).uPortGranted = true ∧ ReachesHoldTest (nine 1 []) tagSix ∧
    ¬ ToBeHeld (nine 1 []) 9 ∧ ToBeHeld (nine 0 []) 9 := by
  refine ⟨by decide +kernel, by decide +kernel,
    reachesHold _ _ _ (by decide +kernel) (by decide +kernel) rfl (by decide +kernel), fun h => ?_,
    (State.toBeHeld_iff _ _).1 (by decide +kernel)⟩
  have : (nine 1 []).toBeHeld 9 = false := by decide +kernel
  rw [(State.toBeHeld_iff _ _).2 h] at this
  exact Bool.noConfusion this

/-- One held entry of requester 7, in credit. -/
def oneHeld : State := { sixHeld with hold := [held (read 7 1 0 4) 1] }

theorem test_meets_ReleaseTakesHighestLevelThenEarliest :
    oneHeld.settled = true ∧ oneHeld.issueQueue.length < 8 ∧
    (oneHeld.issueQueue.length = 7 → oneHeld.uPort ≠ .granted) ∧
    oneHeld.hold = [] ++ held (read 7 1 0 4) 1 :: [] ∧ EligibleAfter oneHeld [] (held (read 7 1 0 4) 1) ∧
    ∀ (other : List HeldEntry) (x : HeldEntry), EligibleAfter oneHeld other x →
      (oneHeld.entry x.txn.requester).level < (oneHeld.entry 7).level ∨
        ((oneHeld.entry x.txn.requester).level = (oneHeld.entry 7).level ∧
          ([] : List HeldEntry).length ≤ other.length) := by
  refine ⟨by decide +kernel, by decide +kernel, by decide +kernel, rfl,
    ⟨⟨[], rfl⟩, by simp, rfl, rfl, fun _ => by decide +kernel⟩,
    fun other x hx => Or.inr ⟨?_, Nat.zero_le _⟩⟩
  obtain ⟨rest, hrest⟩ := hx.1
  have : x ∈ oneHeld.hold := by rw [hrest]; simp
  rw [List.mem_singleton.1 this]
  rfl

/-- A head that ends on the last byte of a segment, with slots 0 to 14 not FREE. -/
def wholeHead : State :=
  { State.reset with
    issueQueue := [read 1 1 1792 16]
    slots := Table.remap State.reset.slots fun i _ =>
      if i = 15 then .free else .abandoned (piece (read 2 9 0 1) .whole 0 1 none 0) }

/-- The part with slot 15 not FREE either. -/
def noneFree (s : State) : State := s.setSlot 15 (.abandoned (piece (read 2 9 0 1) .whole 0 1 none 0))

theorem test_meets_WholeHeadIssuesIntoLowestFreeSlot :
    (wholeHead.settled = true ∧ wholeHead.issueQueue = [read 1 1 1792 16] ∧
      (read 1 1 1792 16).address.toNat + 16 * (read 1 1 1792 16).length.val ≤
        ((read 1 1 1792 16).address.toNat / 2048 + 1) * 2048 ∧
      wholeHead.slot 15 = .free ∧ ∀ j : SlotId, j < 15 → wholeHead.slot j ≠ .free) ∧
    ((noneFree wholeHead).settled = true ∧ (noneFree wholeHead).issueQueue = [read 1 1 1792 16] ∧
      ∀ j : SlotId, (noneFree wholeHead).slot j ≠ .free) := by decide +kernel

/-- The head of section 6.5: with slots 4 and 15 FREE, with slot 15 alone (its own case), and with none. -/
theorem test_meets_SplitHeadIssuesAsPair :
    (splitHead.settled = true ∧ splitHead.issueQueue = [write 6 20 2032 4, read 9 3 0x10000 2] ∧
      ((write 6 20 2032 4).address.toNat / 2048 + 1) * 2048 <
        (write 6 20 2032 4).address.toNat + 16 * (write 6 20 2032 4).length.val ∧
      splitHead.slot 4 = .free ∧ (∀ k : SlotId, k < 4 → splitHead.slot k ≠ .free) ∧
      (∀ k : SlotId, 4 < k → k < 15 → splitHead.slot k ≠ .free) ∧ splitHead.slot 15 = .free) ∧
    (({ wholeHead with issueQueue := splitHead.issueQueue } : State).settled = true ∧
      wholeHead.slot 15 = .free ∧
      ∀ i j : SlotId, wholeHead.slot i = .free → wholeHead.slot j = .free → i = j) ∧
    (({ noneFree wholeHead with issueQueue := splitHead.issueQueue } : State).settled = true ∧
      ∀ i j : SlotId, (noneFree wholeHead).slot i = .free → (noneFree wholeHead).slot j = .free → i = j) := by
  decide +kernel

theorem test_meets_PiecesStayWithinSegments :
    ¬ Malformed (read 0 0 1808 16) ∧ ¬ Malformed (read 0 0 (2 ^ 40 - 256) 16) :=
  ⟨wellFormed (by decide +kernel), wellFormed (by decide +kernel)⟩

/-- One WHOLE READ and one WHOLE WRITE in memory. -/
def wholes : State := (State.reset.setSlot 0 (wholeSlot (read 1 1 0 16) 3)).setSlot 15 (wholeSlot (write 1 2 0 1) 0)

theorem test_meets_WholeCompletionGivesTheResponse :
    wholes.settled = true ∧ PairLaw wholes ∧
    wholes.slot 0 = .issued (piece (read 1 1 0 16) .whole 0 16 none 3) ∧
    wholes.slot 15 = .issued (piece (write 1 2 0 1) .whole 0 1 none 0) :=
  ⟨by decide +kernel, PairLaw.of_agrees (by decide +kernel), by decide +kernel, by decide +kernel⟩

/-- Beside an ISSUED partner, beside an ABANDONED one, and with the reference absent (section 7.8). -/
theorem test_meets_SplitCompletionWaitsOrFaults :
    (PairLaw (lostPiece (.issued (firstThree 40)) (.issued (secondEight 40))) ∧
      (lostPiece (.issued (firstThree 40)) (.issued (secondEight 40))).settled = true) ∧
    (PairLaw (lostPiece (.abandoned (firstThree 200)) (.issued (secondEight 40))) ∧
      (lostPiece (.abandoned (firstThree 200)) (.issued (secondEight 40))).settled = true) ∧
    (PairLaw (lostPiece .free (.issued { secondEight 40 with partner := none })) ∧
      (lostPiece .free (.issued { secondEight 40 with partner := none })).settled = true) :=
  ⟨⟨PairLaw.of_agrees (by decide +kernel), by decide +kernel⟩,
    ⟨PairLaw.of_agrees (by decide +kernel), by decide +kernel⟩,
    PairLaw.of_agrees (by decide +kernel), by decide +kernel⟩

/-- The FIRST piece completes after a SECOND that ended OK, and after one that ended in ERROR. -/
theorem test_meets_PairCompletionAssemblesTheResponse :
    (PairLaw (lostPiece (.issued (firstThree 40)) (.doneWaiting waitingEight)) ∧
      (lostPiece (.issued (firstThree 40)) (.doneWaiting waitingEight)).settled = true ∧
      waitingEight.outcome = .ok ∧ (firstThree 40).kind = .read ∧ (firstThree 40).partner = some 8) ∧
    PairLaw (lostPiece (.issued (firstThree 40)) (.doneWaiting { waitingEight with outcome := .error })) ∧
    PairLaw (lostPiece (.issued { firstThree 40 with kind := .write })
      (.doneWaiting { waitingEight with kind := .write, readData := none })) :=
  ⟨⟨PairLaw.of_agrees (by decide +kernel), by decide +kernel, rfl, rfl, rfl⟩,
    PairLaw.of_agrees (by decide +kernel), PairLaw.of_agrees (by decide +kernel)⟩

theorem test_meets_LateAndStrayCompletions :
    ((lostPiece (.abandoned (firstThree 200)) (.doneWaiting waitingEight)).settled = true ∧
      (lostPiece (.abandoned (firstThree 200)) (.doneWaiting waitingEight)).slot 3 = .abandoned (firstThree 200) ∧
      (lostPiece (.abandoned (firstThree 200)) (.doneWaiting waitingEight)).slot 8 = .doneWaiting waitingEight ∧
      (lostPiece (.abandoned (firstThree 200)) (.doneWaiting waitingEight)).slot 0 = .free) := by decide +kernel

theorem test_meets_TimeoutsAbandonOverdueSlots :
    PairLaw timingOut ∧ timingOut.holdClosed = true ∧ timingOut.timeoutCheck = some 200 ∧
    (timingOut.slot 3).overdue 200 = true :=
  ⟨PairLaw.of_agrees (by decide +kernel), by decide +kernel, by decide +kernel, by decide +kernel⟩

theorem test_meets_AnswerReadShiftsAndConsumes :
    State.reset.link.answer = none ∧ (after (.readStatus 3) State.reset).linkReady = true ∧
    (after (.readStatus 3) State.reset).link.answer.isSome = true := by decide +kernel

/-- The last index of each table, the first beyond it, and the first copy selector that names nothing. -/
theorem test_meets_ConfigurationIsRead :
    (31 : Byte).toNat = (31 : RequesterId).val ∧ 31 < (32 : Byte).toNat ∧ (15 : Byte).toNat = (15 : RangeId).val ∧
    15 < (16 : Byte).toNat ∧ 1 < (2 : Byte).toNat := by decide +kernel

theorem test_meets_HeldEntriesAreRead :
    sixHeld.linkReady = true ∧ (14 : Byte).toNat = (14 : RequesterId).val ∧ 31 < (32 : Byte).toNat := by decide +kernel

/-- Unfrozen with a good and with a bad block, and frozen, for each of the three writes; the last good index and the
first bad one. -/
theorem test_meets_StagedWritesReplaceWholeParts :
    (State.reset.linkReady = true ∧ State.reset.commit.state = .idle ∧ (drainingCommit 1).linkReady = true ∧
      (drainingCommit 1).commit.state ≠ .idle) ∧
    ((globalOfBytes (GlobalBlock.bytes regulating)).isSome = true ∧ globalOfBytes (List.replicate 13 0) = none ∧
      (GlobalBlock.bytes regulating).length = 13) ∧
    ((requesterEntryOfBytes (entry 7 1 1 3 48 15).bytes).isSome = true ∧
      requesterEntryOfBytes (entry 8 1 1 3 48 15).bytes = none ∧ (entry 7 1 1 3 48 15).bytes.length = 10 ∧
      (31 : Byte).toNat = (31 : RequesterId).val ∧ 31 < (32 : Byte).toNat) ∧
    ((rangeEntryOfBytes RangeEntry.default.bytes).isSome = true ∧ rangeEntryOfBytes (List.replicate 14 0) = none ∧
      RangeEntry.default.bytes.length = 14 ∧ (15 : Byte).toNat = (15 : RangeId).val ∧ 15 < (16 : Byte).toNat) := by
  decide +kernel

theorem test_meets_WrittenBlocksReadBackAsWritten :
    (globalOfBytes (GlobalBlock.bytes regulating)) = some regulating ∧ regulating.inRange = true ∧
    (requesterEntryOfBytes (entry 7 65535 65535 3 48 15).bytes) = some (entry 7 65535 65535 3 48 15) ∧
    (rangeEntryOfBytes RangeEntry.default.bytes) = some RangeEntry.default := by decide +kernel

/-- A staged range entry 15 with no class fails its check, valid or not (R68, R145). -/
def badRange : State :=
  { State.reset with staged := (withRange 15 { RangeEntry.default with classes := 0 } State.reset).active }

/-- A staged sync phase at the period fails the check of the global block. -/
def badGlobal : State :=
  { State.reset with staged := (withGlobal { GlobalBlock.default with syncPhase := 1000 } State.reset).active }

theorem test_meets_CommitIsDecidedInOrder :
    ((drainingCommit 1).linkReady = true ∧ (drainingCommit 1).commit.state ≠ .idle ∧
      drainingRestart.linkReady = true ∧ drainingRestart.restart ≠ .idle) ∧
    (1 < (2 : Byte).toNat ∧ (1 : Byte).toNat ≤ 1 ∧ badGlobal.linkReady = true ∧
      badGlobal.staged.global.commitOk = false) ∧
    (badStaged.linkReady = true ∧ badStaged.staged.global.commitOk = true ∧
      (badStaged.staged.requesters[(31 : RequesterId)]).commitOk = false ∧
      ∀ q : RequesterId, q < 31 → (badStaged.staged.requesters[q]).commitOk = true) ∧
    (badRange.linkReady = true ∧ (∀ q : RequesterId, (badRange.staged.requesters[q]).commitOk = true) ∧
      (badRange.staged.ranges[(15 : RangeId)]).commitOk = false ∧
      ∀ m : RangeId, m < 15 → (badRange.staged.ranges[m]).commitOk = true) ∧
    State.reset.staged.commitOk := by
  unfold Configuration.commitOk
  decide +kernel

theorem test_meets_CancelAndCopyActByCommitState :
    (State.reset.linkReady = true ∧ State.reset.commit.state = .idle) ∧
    ((drainingCommit 3).linkReady = true ∧ (drainingCommit 3).commit.state ≠ .idle) := by decide +kernel

/-- A restart already DRAINING; one that starts with a queued transaction and with an ISSUED slot. -/
theorem test_meets_RestartStartsItsDrain :
    (drainingRestart.linkReady = true ∧ drainingRestart.restart ≠ .idle) ∧
    ((full 1 .none).linkReady = true ∧ (full 1 .none).restart = .idle ∧ (full 1 .none).issueQueue ≠ []) ∧
    (wholes.restart = .idle ∧ ∃ (i : SlotId) (q : SlotRecord), wholes.slot i = .issued q) :=
  ⟨by decide +kernel, by decide +kernel, by decide +kernel, 0, _,
    test_meets_WholeCompletionGivesTheResponse.2.2.1⟩

theorem test_meets_RestartWithNothingInFlightEndsAtOnce :
    sixHeld.linkReady = true ∧ sixHeld.restart = .idle ∧ sixHeld.issueQueue = [] ∧
    ∀ (i : SlotId) (q : SlotRecord), sixHeld.slot i ≠ .issued q :=
  ⟨by decide +kernel, by decide +kernel, by decide +kernel, not_issued_of (by decide +kernel)⟩

theorem test_meets_RecoverDownstreamFreesAbandonedSlots :
    splitHead.linkReady = true ∧ (splitHead.slot 0).isAbandoned = true := by decide +kernel

/-- Requester 31 present, requester 30 absent, 32 no requester. -/
theorem test_meets_IsolateCommandIsolatesPresentRequesters :
    31 < (32 : Byte).toNat ∧ (31 : Byte).toNat = (31 : RequesterId).val ∧ (sixHeld.entry 31).present = true ∧
    (withEntry 30 absent sixHeld).linkReady = true ∧ (30 : Byte).toNat = (30 : RequesterId).val ∧
    ((withEntry 30 absent sixHeld).entry 30).present = false := by decide +kernel

theorem test_meets_ReleaseCommandFreesRestrainedRequesters :
    31 < (32 : Byte).toNat ∧ ((withEntry 30 absent sixHeld).entry 30).present = false ∧
    ((sixHeld.entry 31).present = true ∧ (sixHeld.restraint 31).standing = .free) ∧
    ((withStanding 0 .curbed sixHeld).linkReady = true ∧ ((withStanding 0 .curbed sixHeld).entry 0).present = true ∧
      ((withStanding 0 .curbed sixHeld).restraint 0).standing ≠ .free) := by decide +kernel

/-- Counts 0 and 5 are refused, 1 and 4 are taken. -/
theorem test_meets_ReadLogRemovesOldestRecords :
    ((0 : Byte).toNat = 0 ∧ 4 < (5 : Byte).toNat) ∧
    (1 ≤ (1 : Byte).toNat ∧ (1 : Byte).toNat ≤ 4) ∧ (1 ≤ (4 : Byte).toNat ∧ (4 : Byte).toNat ≤ 4) ∧
    ({ State.reset with log := logOf 32 1032 } : State).linkReady = true := by decide +kernel

theorem test_meets_AlertMaskAndAcknowledgement :
    alerted.linkReady = true ∧ (0x80 : Byte).getLsbD 7 = true ∧ (0x7F : Byte).getLsbD 7 = false := by decide +kernel

theorem test_meets_RefusedAndIgnoredTransfers :
    ((after .reset (receiving [0xA5])).settled = true ∧
      (after .reset (receiving [0xA5])).link.select = .ignored ∧ (frameOf (.readStatus 7)).isSome = true) ∧
    State.reset.linkReady = true ∧ checkFrame [] = .frameError ∧
    checkFrame [0x01, 0x03, 0x00, 0xAE, 0xFF] = .unknownCommand ∧ (0x5B : Byte) ≠ 0x5A ∧ (0x5B : Byte) ≠ 0xA5 := by
  decide +kernel

/-- A frame of 4 bytes; and for the frame of READ_STATUS: a wrong CRC, the right CRC with the command's own length,
with another length, and with a code that is none of the 20. -/
theorem test_meets_FrameChecksInTheirOrder :
    ([1, 2, 0, 4] : List Byte).length < 5 ∧
    (3 ≤ ([7, 2, 0] : List Byte).length ∧ ([7, 2, 0] : List Byte).length = 3 + (([7, 2, 0] : List Byte).getD 2 0).toNat ∧
      (0x2F : Byte).toNat * 256 + (0x6E : Byte).toNat = (crc16 [7, 2, 0]).toNat ∧
      (0x2F : Byte).toNat * 256 + (0x6F : Byte).toNat ≠ (crc16 [7, 2, 0]).toNat ∧ parameterLength 2 = some 0) ∧
    ((0xA4 : Byte).toNat * 256 + (0x1A : Byte).toNat = (crc16 [0x02, 0x20, 0x00]).toNat ∧
      parameterLength 0x20 = some 1) ∧
    ((0xAE : Byte).toNat * 256 + (0xFF : Byte).toNat = (crc16 [0x01, 0x03, 0x00]).toNat ∧
      parameterLength 0x03 = none) := by decide +kernel

theorem test_meets_CommandFramesCarryTheirCommand :
    (Instr.readStatus 7).wf = true ∧ frameOf (.readStatus 7) = some [0x07, 0x02, 0x00, 0x2F, 0x6E] ∧
    (Instr.writeRange 1 15 RangeEntry.default.bytes).wf = true ∧
    (frameOf (.writeRange 1 15 RangeEntry.default.bytes)).isSome = true := by decide +kernel

/-- A log with 31 records and a full one. -/
theorem test_meets_IncidentIsRecordedOrDropped :
    (logOf 31 31).records.length < 32 ∧ 32 ≤ (logOf 32 32).records.length := by decide +kernel

/-- The premises of the invariants of every step hold at reset, which has one command waiting: a step is taken. -/
theorem test_meets_StepKeeps :
    CapacityLaw State.reset ∧ BalanceLaw State.reset ∧ SpendLaw State.reset ∧ DrainLaw State.reset ∧
    PairLaw State.reset ∧ TimerLaw State.reset ∧ QueuedWellFormed State.reset ∧ HeldStandingLaw State.reset ∧
    step { State.reset with pending := [.tick] } = .next (after .tick State.reset) := by
  refine ⟨?_, ?_, ?_, ?_, PairLaw.of_agrees (by decide +kernel), ?_, ?_, ?_, rfl⟩
  · unfold CapacityLaw; decide +kernel
  · unfold BalanceLaw; decide +kernel
  · unfold SpendLaw; decide +kernel
  · exact ⟨by decide +kernel, by decide +kernel, fun h => absurd h (by decide +kernel)⟩
  · unfold TimerLaw; decide +kernel
  · unfold QueuedWellFormed; decide +kernel
  · unfold HeldStandingLaw; decide +kernel

/-- Both clauses of the bound below the period: a counter one below it, and one that stands at it when ISSUE comes. -/
theorem test_meets_StepKeepsConfigurationAndTimer :
    let below : State := { clock 999 5 0 with pending := [.commitAbandoned] }
    let reached : State := { atPeriod State.reset with pending := [.issue] }
    (ConfigLaw below ∧ TimerLaw below ∧ step below = .next (after .commitAbandoned (clock 999 5 0)) ∧
      below.timer.counter < below.active.global.period) ∧
    ConfigLaw reached ∧ TimerLaw reached ∧ step reached = .next (after .issue (atPeriod State.reset)) ∧
    Instr.issue ∉ [.tick, .holdExpiry, .completionTimeout, .commitAbandoned, .restartForcedEnd] := by
  unfold ConfigLaw TimerLaw Configuration.inRange Configuration.commitOk
  refine ⟨⟨?_, ?_, rfl, ?_⟩, ?_, ?_, rfl, ?_⟩ <;> decide +kernel

end Sys2Proof.Tests
end

section
/-! PROOFS. The accounts at a window end (section 1.2): the refill and the rollover, and why no other effect of the
same window end reaches a balance or a count of beats. -/

namespace Sys2Proof.Machine

/-! ## What the effects around the refill and the rollover keep -/

/-- From `s` to `t` the configuration in force, every balance and both counts of beats of every requester stay. The counts
of refusals may change (R17). -/
structure KeepsUsage (s t : State) : Prop where
  active : t.active = s.active
  balance : ∀ r : RequesterId, (t.account r).balance = (s.account r).balance
  beatsThis : ∀ r : RequesterId, (t.account r).beatsThis = (s.account r).beatsThis
  beatsLast : ∀ r : RequesterId, (t.account r).beatsLast = (s.account r).beatsLast

namespace KeepsUsage

/-- A change that reaches neither the active configuration nor the accounts keeps the usage. -/
theorem of_eq {s t : State} (active : t.active = s.active) (accounts : t.accounts = s.accounts) :
    KeepsUsage s t := by
  have account (r : RequesterId) : t.account r = s.account r := by rw [State.account, accounts, State.account]
  exact ⟨active, fun r => by rw [account], fun r => by rw [account], fun r => by rw [account]⟩

theorem refl (s : State) : KeepsUsage s s := of_eq rfl rfl

theorem trans {s t u : State} (h : KeepsUsage s t) (k : KeepsUsage t u) : KeepsUsage s u where
  active := k.active.trans h.active
  balance r := (k.balance r).trans (h.balance r)
  beatsThis r := (k.beatsThis r).trans (h.beatsThis r)
  beatsLast r := (k.beatsLast r).trans (h.beatsLast r)

theorem ite {s t u : State} {c : Prop} [Decidable c] (ht : KeepsUsage s t) (hu : KeepsUsage s u) :
    KeepsUsage s (if c then t else u) := by
  split
  · exact ht
  · exact hu

theorem foldl {α : Type} {f : State → α → State} (hf : ∀ s x, KeepsUsage s (f s x)) (xs : List α) (s : State) :
    KeepsUsage s (xs.foldl f s) := by
  induction xs generalizing s with
  | nil => exact refl s
  | cons x xs ih => exact (hf s x).trans (ih (f s x))

end KeepsUsage

/-- Refusals count in the statistics of refusals alone (R17). -/
theorem State.withRefusals_keepsUsage (s : State) (ts : List Transaction) (o : ResponseOutcome) :
    KeepsUsage s (s.withRefusals ts o) := by
  have account (r : RequesterId) : (s.withRefusals ts o).account r =
      if (s.entry r).present = true then
        (s.account r).refused o (ts.countP fun x => decide (x.requester = r))
      else s.account r := Table.remap_get _ _ r
  refine ⟨rfl, fun r => ?_, fun r => ?_, fun r => ?_⟩ <;> rw [account] <;> split <;> rfl

theorem State.flush_keepsUsage (s : State) (named : HeldEntry → Bool) : KeepsUsage s (s.flush named .denied) := by
  rw [State.flush_eq _ _ _ (Or.inr rfl)]
  refine KeepsUsage.trans ?_ (State.withRefusals_keepsUsage _ _ _)
  exact KeepsUsage.of_eq rfl rfl

theorem State.record_keepsUsage (s : State) (i : Incident) : KeepsUsage s (s.record i) := by
  rw [State.record_eq]
  exact KeepsUsage.of_eq rfl rfl

theorem State.isolate_keepsUsage (s : State) (r : RequesterId) : KeepsUsage s (s.isolate r) := by
  have standing : KeepsUsage s (s.setRestraint r { s.restraint r with standing := .isolated }) :=
    KeepsUsage.of_eq rfl rfl
  exact (standing.trans (State.flush_keepsUsage _ _)).trans (KeepsUsage.of_eq rfl rfl)

theorem State.evaluateRequester_keepsUsage (s : State) (r : RequesterId) : KeepsUsage s (s.evaluateRequester r) := by
  have evaluated : KeepsUsage s (s.setRestraint r (s.restraint r).evaluated) := KeepsUsage.of_eq rfl rfl
  have escalated (u : State) : KeepsUsage u ((u.isolate r).record (.escalated r)) :=
    (State.isolate_keepsUsage u r).trans (State.record_keepsUsage _ _)
  exact KeepsUsage.ite (KeepsUsage.ite (evaluated.trans (escalated _)) evaluated) (KeepsUsage.refl s)

theorem State.evaluateAll_keepsUsage (s : State) : KeepsUsage s s.evaluateAll :=
  KeepsUsage.foldl State.evaluateRequester_keepsUsage _ s

theorem State.expireEntry_keepsUsage (s : State) (e : HeldEntry) : KeepsUsage s (s.expireEntry e) := by
  have refused : KeepsUsage s (s.refuse e.txn .retry) := by
    have single : s.refuse e.txn .retry = s.withRefusals [e.txn] .retry :=
      State.refuseAll_eq s [e.txn] .retry (Or.inl rfl)
    rw [single]
    exact State.withRefusals_keepsUsage _ _ _
  exact refused.trans (State.record_keepsUsage _ _)

theorem State.expireBefore_keepsUsage (s : State) : KeepsUsage s s.expireBefore := by
  refine KeepsUsage.trans ?_ (KeepsUsage.foldl State.expireEntry_keepsUsage _ _)
  exact KeepsUsage.of_eq rfl rfl

theorem State.recordApplied_keepsUsage (applied : Bool) (s : State) :
    KeepsUsage s (State.recordApplied applied s) :=
  KeepsUsage.ite (State.record_keepsUsage _ _) (KeepsUsage.refl s)

/-- In whichever order the blocks' records join the log (R162), the usage stays. -/
theorem State.joinInOpenOrder_keepsUsage (applied : Bool) (s : State) :
    KeepsUsage s (s.joinInOpenOrder applied) := by
  have expired (p : Prop) [Decidable p] (u : State) : KeepsUsage u (if p then u.expireBefore else u) :=
    KeepsUsage.ite (State.expireBefore_keepsUsage u) (KeepsUsage.refl u)
  have first := (KeepsUsage.of_eq (s := s) (t := { s with openChoices := s.openChoices + 1 }) rfl rfl).trans
    (expired (Config.expiryJoinsAt s.openChoices = .first) _)
  refine KeepsUsage.ite ?_ ?_
  · exact ((first.trans (State.evaluateAll_keepsUsage _)).trans (expired _ _)).trans
      (State.recordApplied_keepsUsage applied _)
  · exact ((first.trans (State.recordApplied_keepsUsage applied _)).trans (expired _ _)).trans
      (State.evaluateAll_keepsUsage _)

theorem State.joinRecords_keepsUsage (applied : Bool) (s : State) : KeepsUsage s (s.joinRecords applied) :=
  KeepsUsage.ite (State.joinInOpenOrder_keepsUsage applied s)
    ((State.recordApplied_keepsUsage applied s).trans (State.evaluateAll_keepsUsage _))

theorem State.startDrain_keepsUsage (s : State) : KeepsUsage s s.startDrain :=
  KeepsUsage.ite (KeepsUsage.of_eq rfl rfl) (KeepsUsage.refl s)

/-! ## The refill, the rollover and the apply, account by account -/

theorem State.refill_account (s : State) (r : RequesterId) :
    s.refill.account r =
      if (s.entry r).accounted then
        { s.account r with
          balance := refilled (s.entry r).allowance (s.entry r).carryLimit (s.account r).balance }
      else s.account r :=
  Table.remap_get _ _ r

theorem State.refill_balance (s : State) {r : RequesterId} (h : (s.entry r).accounted = true) :
    (s.refill.account r).balance =
      refilled (s.entry r).allowance (s.entry r).carryLimit (s.account r).balance := by
  rw [State.refill_account, if_pos h]

theorem State.refill_beatsThis (s : State) (r : RequesterId) :
    (s.refill.account r).beatsThis = (s.account r).beatsThis := by
  rw [State.refill_account]
  split <;> rfl

theorem State.rollover_account (s : State) (r : RequesterId) :
    s.rollover.account r = { s.account r with beatsLast := (s.account r).beatsThis, beatsThis := 0 } :=
  Table.remap_get _ _ r

/-- After the flush (R61) an apply sets the balance of a requester it leaves out of account to 0 (R19). -/
theorem State.applyStaged_account (s : State) (r : RequesterId) :
    let flushed := { s with active := s.staged }.flush { s with active := s.staged }.applyFlushes .denied
    s.applyStaged.account r =
      if (s.applyStaged.entry r).accounted then flushed.account r else { flushed.account r with balance := 0 } :=
  Table.remap_get _ _ r

theorem State.applyStaged_active (s : State) : s.applyStaged.active = s.staged :=
  (State.flush_keepsUsage { s with active := s.staged } _).active

theorem State.applyStaged_beatsThis (s : State) (r : RequesterId) :
    (s.applyStaged.account r).beatsThis = (s.account r).beatsThis := by
  have flushed := (State.flush_keepsUsage { s with active := s.staged }
    { s with active := s.staged }.applyFlushes).beatsThis r
  rw [State.applyStaged_account]
  split
  · exact flushed
  · exact flushed

theorem State.applyStaged_balance (s : State) {r : RequesterId}
    (h : (s.applyStaged.entry r).accounted = true) :
    (s.applyStaged.account r).balance = (s.account r).balance := by
  rw [State.applyStaged_account, if_pos h]
  exact (State.flush_keepsUsage { s with active := s.staged } _).balance r

/-! ## The window end in three parts: the opening, the refill with the rollover, the rest -/

/-- The part when a window end has set the timer and applied a commit, and the other blocks' effects are still to come. -/
def State.windowOpened (s : State) (cause : WindowEndCause) : State :=
  let ended := { s with timer := { counter := 0, elapsed := 0, windowNumber := s.timer.windowNumber + 1 } }
  let applied := if s.applies cause then ended.applyStaged else ended
  { applied with timer := { applied.timer with counter := applied.openingCounter cause } }

theorem State.windowEnd_eq (s : State) (cause : WindowEndCause) :
    s.windowEnd cause = ((s.windowOpened cause).windowEffects (s.applies cause)).startDrain := rfl

/-- After the rollover a window end leaves the usage alone: ageing, evaluation, records and a drain's start do not reach
it. -/
theorem State.windowEnd_keepsUsage (s : State) (cause : WindowEndCause) :
    KeepsUsage (s.windowOpened cause).refill.rollover (s.windowEnd cause) := by
  have aged (u : State) : KeepsUsage u u.ageHold := KeepsUsage.of_eq rfl rfl
  rw [State.windowEnd_eq]
  exact ((aged _).trans (State.joinRecords_keepsUsage _ _)).trans (State.startDrain_keepsUsage _)

theorem State.windowOpened_active (s : State) (cause : WindowEndCause) :
    (s.windowOpened cause).active = s.configAfter cause := by
  unfold State.windowOpened State.configAfter
  split
  · exact State.applyStaged_active _
  · rfl

theorem State.windowOpened_beatsThis (s : State) (cause : WindowEndCause) (r : RequesterId) :
    ((s.windowOpened cause).account r).beatsThis = (s.account r).beatsThis := by
  unfold State.windowOpened
  split
  · exact State.applyStaged_beatsThis _ r
  · rfl

/-- The opening leaves the balance of a requester that is in account from now on, so the refill starts from it. -/
theorem State.windowOpened_balance (s : State) (cause : WindowEndCause) {r : RequesterId}
    (h : ((s.windowOpened cause).entry r).accounted = true) :
    ((s.windowOpened cause).account r).balance = (s.account r).balance := by
  by_cases applies : s.applies cause = true
  · simp only [State.windowOpened, if_pos applies] at h ⊢
    exact State.applyStaged_balance _ h
  · simp only [State.windowOpened, if_neg applies]
    rfl

/-! ## What a window end does to the configuration in force and to an account -/

theorem State.windowEnd_active (s : State) (cause : WindowEndCause) :
    (s.windowEnd cause).active = s.configAfter cause :=
  (s.windowEnd_keepsUsage cause).active.trans (s.windowOpened_active cause)

/-- Every requester in account after any apply is refilled from the balance before the window end (R13). -/
theorem State.windowEnd_balance (s : State) (cause : WindowEndCause) {r : RequesterId}
    (h : ((s.windowEnd cause).entry r).accounted = true) :
    ((s.windowEnd cause).account r).balance =
      refilled ((s.windowEnd cause).entry r).allowance ((s.windowEnd cause).entry r).carryLimit
        (s.account r).balance := by
  have entry : (s.windowEnd cause).entry r = (s.windowOpened cause).entry r := by
    rw [State.entry, State.windowEnd_active, State.entry, State.windowOpened_active]
  rw [entry] at h ⊢
  rw [(s.windowEnd_keepsUsage cause).balance, State.rollover_account, State.refill_balance _ h,
    State.windowOpened_balance _ _ h]

theorem State.windowEnd_beatsLast (s : State) (cause : WindowEndCause) (r : RequesterId) :
    ((s.windowEnd cause).account r).beatsLast = (s.account r).beatsThis := by
  rw [(s.windowEnd_keepsUsage cause).beatsLast, State.rollover_account, State.refill_beatsThis,
    State.windowOpened_beatsThis]

theorem State.windowEnd_beatsThis (s : State) (cause : WindowEndCause) (r : RequesterId) :
    ((s.windowEnd cause).account r).beatsThis = 0 := by
  rw [(s.windowEnd_keepsUsage cause).beatsThis, State.rollover_account]

/-! ## The obligations -/

/-- Settles O8: the refill reads the configuration in force after any apply and the balance from before it, and the other
effects of the window end leave what it wrote. -/
theorem refillAtEveryWindowEnd : Obligations.RefillAtEveryWindowEnd := by
  intro s cause r
  refine ⟨s.windowEnd_active cause, fun present regulated => ?_⟩
  have accounted : ((s.windowEnd cause).entry r).accounted = true := by
    rw [RequesterEntry.accounted, present, regulated, Bool.and_self]
  rw [s.windowEnd_balance cause accounted]
  exact ⟨fun credit => if_pos credit, fun debt => if_neg (not_le.2 debt)⟩

/-- Settles O9: beats last window takes what beats this window held before the window end, which is 0 when another one
went just before. -/
theorem rolloverAtEveryWindowEnd : Obligations.RolloverAtEveryWindowEnd := by
  intro s cause next r
  refine ⟨s.windowEnd_beatsLast cause r, s.windowEnd_beatsThis cause r, ?_⟩
  rw [State.windowEnd_beatsLast, State.windowEnd_beatsThis]

end Sys2Proof.Machine
end

section
/-! PROOFS. Admission (chapter 2) where it refuses: what a taken transaction leaves when its decision only refuses it, and
which decision steps 1 to 4 come to. -/

namespace Sys2Proof.Machine

/-! ## What a decision that only refuses leaves -/

theorem State.withIncidents_nil (s : State) : s.withIncidents [] = s := by
  simp [State.withIncidents, IncidentLog.handed, IncidentLog.overflows]

/-- The response and the incidents of a decision that refuses the transaction and does nothing else; none for the others
(R25 to R36). -/
def Admission.refusal (x : Transaction) : Admission → Option (ResponseOutcome × List Incident)
  | .malformed => some (.denied, [.malformed x.requester x.tag x.address])
  | .duplicateTag => some (.denied, [.duplicateTag x.requester x.tag])
  | .restarting => some (.retry, [])
  | .unknownRequester => some (.denied, [.unknownRequester x.requester x.tag])
  | .isolated => some (.denied, [])
  | .rangeDeny n => some (.denied, [.rangeDeny x.requester x.tag x.address n])
  | .rangeCurb _ => none
  | .rangeIsolate _ => none
  | .curbed => some (.retry, [])
  | .hold => none
  | .noRoom => some (.retry, [])
  | .forward => none

/-- Acting on such a decision is that refusal and those incidents. -/
theorem State.actOnDecision_of_refusal {s : State} {x : Transaction} {o : ResponseOutcome} {is : List Incident}
    (h : (s.decideAdmission x).refusal x = some (o, is)) :
    s.actOnDecision x = (s.withRefusal x o).withIncidents is := by
  have denied : s.refuse x .denied = s.withRefusal x .denied := s.refuse_eq x .denied (Or.inr rfl)
  have retry : s.refuse x .retry = s.withRefusal x .retry := s.refuse_eq x .retry (Or.inl rfl)
  unfold State.actOnDecision
  cases decision : s.decideAdmission x <;> rw [decision] at h <;> cases h <;>
    simp only [denied, retry, State.record_eq, State.withIncidents_nil]

/-- A granted arrival with nothing else due is acted on from the part with empty ports and no request waiting. -/
theorem exec_transactionTaken_of_granted {s : State} {x : Transaction} (ready : s.arrivalReady = true)
    (granted : s.uPortGranted = true) :
    exec (.transactionTaken x) s = .next ({ s.clearOut with uPort := .none }.actOnDecision x) := by
  have taken : s.clearOut.takeRequest x = { s.clearOut with uPort := .none }.actOnDecision x := if_pos granted
  have arm : exec (.transactionTaken x) s = .next (s.beginTaking.takeRequest x) := rfl
  rw [arm, State.beginTaking_of_ready ready, taken]

/-- The whole next state of a granted arrival that is only refused. Neither the ports nor the request at the U-port enters
the decision, so the refusal is read off the part as it stands. -/
theorem exec_transactionTaken_of_refusal {s : State} {x : Transaction} {o : ResponseOutcome} {is : List Incident}
    (ready : s.arrivalReady = true) (granted : s.uPortGranted = true)
    (h : (s.decideAdmission x).refusal x = some (o, is)) :
    exec (.transactionTaken x) s =
      .next { (s.clearOut.withRefusal x o).withIncidents is with uPort := .none } := by
  have decided : ({ s.clearOut with uPort := .none } : State).decideAdmission x = s.decideAdmission x := rfl
  rw [exec_transactionTaken_of_granted ready granted, State.actOnDecision_of_refusal (decided ▸ h)]
  rfl

/-- The same for a refusal with no incident. -/
theorem exec_transactionTaken_of_silent_refusal {s : State} {x : Transaction} {o : ResponseOutcome}
    (ready : s.arrivalReady = true) (granted : s.uPortGranted = true)
    (h : (s.decideAdmission x).refusal x = some (o, [])) :
    exec (.transactionTaken x) s = .next { s.clearOut.withRefusal x o with uPort := .none } := by
  rw [exec_transactionTaken_of_refusal ready granted h, State.withIncidents_nil]

/-! ## The range check -/

/-- There is no deciding entry exactly when no entry matches (R71). -/
theorem State.decidingEntry_eq_none_iff {s : State} {x : Transaction} (beats : 1 ≤ x.length.val) :
    s.decidingEntry x = none ↔ ∀ n : RangeId, ¬ Matches (s.active.ranges[n]) (s.entry x.requester).cls x := by
  simp only [State.decidingEntry, List.find?_eq_none, List.mem_finRange, RangeEntry.hits_iff _ _ _ beats,
    true_implies]

theorem length_pos_of_not_malformed {x : Transaction} (h : ¬ Malformed x) : 1 ≤ x.length.val := by
  unfold Malformed at h
  omega

/-- The lowest-numbered entry that matches decides, with its own action (R71). -/
theorem State.rangeCheck_of_decides {s : State} {x : Transaction} {n : RangeId} {a : RangeAction}
    (beats : 1 ≤ x.length.val) (h : Decides s x n a) : s.rangeCheck x = (a, some n) := by
  obtain ⟨hit, action, first⟩ := h
  have deciding : s.decidingEntry x = some n := by
    refine List.find?_eq_some_iff_getElem.2 ⟨(RangeEntry.hits_iff _ _ _ beats).2 hit, n.val, by simp, by simp, ?_⟩
    intro k hk
    have earlier := first ⟨k, hk.trans n.isLt⟩ hk
    rw [← RangeEntry.hits_iff _ _ _ beats] at earlier
    simpa using earlier
  simp only [State.rangeCheck, deciding, action]

/-- With no entry that matches the result is PASS (R71). -/
theorem State.rangeCheck_of_no_match {s : State} {x : Transaction} (beats : 1 ≤ x.length.val)
    (h : ∀ n : RangeId, ¬ Matches (s.active.ranges[n]) (s.entry x.requester).cls x) :
    s.rangeCheck x = (.pass, none) := by
  simp only [State.rangeCheck, (State.decidingEntry_eq_none_iff beats).2 h]

/-- Where the range check passes, with or without a deciding entry, steps 4d and 5 decide (R32, R71). -/
theorem State.decideRange_of_passes {s : State} {x : Transaction} (wellFormed : ¬ Malformed x)
    (passes : RangePasses s x) :
    s.decideRange x = if (s.restraint x.requester).standing = .curbed then .curbed else s.decideHold x := by
  have beats := length_pos_of_not_malformed wellFormed
  rcases passes with noMatch | ⟨n, hit, action, first⟩
  · simp only [State.decideRange, State.rangeCheck_of_no_match beats noMatch]
  · simp only [State.decideRange, State.rangeCheck_of_decides beats ⟨hit, action, first⟩]

/-! ## Which step decides -/

section
variable {s : State} {x : Transaction}

theorem State.decideAdmission_of_malformed (h : Malformed x) : s.decideAdmission x = .malformed :=
  if_pos ((malformed_iff x).2 h)

theorem State.decideAdmission_of_live (wellFormed : ¬ Malformed x) (h : LivePair s x.requester x.tag) :
    s.decideAdmission x = .duplicateTag := by
  rw [State.decideAdmission, if_neg (mt (malformed_iff x).1 wellFormed), if_pos ((s.live_iff _ _).2 h)]

theorem State.decideAdmission_of_restarting (wellFormed : ¬ Malformed x) (fresh : ¬ LivePair s x.requester x.tag)
    (h : s.restart ≠ .idle) : s.decideAdmission x = .restarting := by
  rw [State.decideAdmission, if_neg (mt (malformed_iff x).1 wellFormed), if_neg (mt (s.live_iff _ _).1 fresh),
    if_pos h]

/-- Past steps 1 to 3 in REGULATING mode step 4 decides, from the requester's standing on (R28 to R31). -/
theorem State.decideAdmission_of_regulating (wellFormed : ¬ Malformed x) (fresh : ¬ LivePair s x.requester x.tag)
    (idle : s.restart = .idle) (mode : s.active.global.mode = .regulating) :
    s.decideAdmission x =
      if !(s.entry x.requester).present then .unknownRequester
      else if (s.restraint x.requester).standing = .isolated then .isolated
      else s.decideRange x := by
  rw [State.decideAdmission, if_neg (mt (malformed_iff x).1 wellFormed), if_neg (mt (s.live_iff _ _).1 fresh),
    if_neg (not_not.2 idle), if_pos (show s.regulating = true from decide_eq_true mode)]

end

/-! ## The obligations -/

/-- Settles O18: steps 1 to 3 each end the decision with a refusal, whatever the later steps would find. -/
theorem firstThreeStepsRefuse : Obligations.FirstThreeStepsRefuse := by
  intro s x ready granted
  refine ⟨fun malformed => ?_, fun wellFormed live => ?_, fun wellFormed fresh restarting => ?_⟩
  · apply exec_transactionTaken_of_refusal ready granted
    rw [State.decideAdmission_of_malformed malformed, Admission.refusal]
  · apply exec_transactionTaken_of_refusal ready granted
    rw [State.decideAdmission_of_live wellFormed live, Admission.refusal]
  · apply exec_transactionTaken_of_silent_refusal ready granted
    rw [State.decideAdmission_of_restarting wellFormed fresh restarting, Admission.refusal]

/-- Settles O19: step 4 looks at presence, then at ISOLATED, and at CURBED only after a range check that passes. -/
theorem standingDecidesInRegulatingMode : Obligations.StandingDecidesInRegulatingMode := by
  intro s x ready granted wellFormed fresh idle mode
  have step4 := State.decideAdmission_of_regulating wellFormed fresh idle mode
  refine ⟨fun absent => ?_, fun present isolated => ?_, fun present curbed passes => ?_⟩
  · apply exec_transactionTaken_of_refusal ready granted
    simp [step4, absent, Admission.refusal]
  · apply exec_transactionTaken_of_silent_refusal ready granted
    simp [step4, present, isolated, Admission.refusal]
  · apply exec_transactionTaken_of_silent_refusal ready granted
    simp [step4, present, curbed, State.decideRange_of_passes wellFormed passes, Admission.refusal]

end Sys2Proof.Machine
end

section
/-! PROOFS. Release (chapter 3): which held entries the release unit claims for, which of them it selects, and what the
release of that one leaves. -/

namespace Sys2Proof.Machine

/-! ## The first-listed entries -/

/-- An entry with none of its requester before it is first-listed, and what is first-listed before it is first-listed in
the part of the queue before it. -/
theorem firstListedFrom_append_cons (before after : List HeldEntry) (e : HeldEntry) (seen : List RequesterId)
    (first : ∀ x ∈ before, x.txn.requester ≠ e.txn.requester) (unseen : e.txn.requester ∉ seen) :
    ∃ later, firstListedFrom seen (before ++ e :: after) = firstListedFrom seen before ++ e :: later := by
  induction before generalizing seen with
  | nil => exact ⟨_, if_neg unseen⟩
  | cons y before ih =>
    obtain ⟨other, first⟩ := List.forall_mem_cons.1 first
    simp only [List.cons_append, firstListedFrom]
    split
    · exact ih seen first unseen
    · obtain ⟨later, h⟩ := ih (y.txn.requester :: seen) first (by simp [unseen, other.symm])
      exact ⟨later, by rw [h, List.cons_append]⟩

/-- A first-listed entry stands in the queue with none of its requester before it. -/
theorem exists_append_cons_of_mem_firstListedFrom {q : List HeldEntry} {x : HeldEntry} {seen : List RequesterId}
    (h : x ∈ firstListedFrom seen q) :
    x.txn.requester ∉ seen ∧
      ∃ before after, q = before ++ x :: after ∧ ∀ y ∈ before, y.txn.requester ≠ x.txn.requester := by
  induction q generalizing seen with
  | nil => cases h
  | cons y q ih =>
    rw [firstListedFrom] at h
    split at h
    next repeated =>
      obtain ⟨unseen, before, after, rfl, first⟩ := ih h
      exact ⟨unseen, y :: before, after, rfl,
        List.forall_mem_cons.2 ⟨fun same => unseen (same ▸ repeated), first⟩⟩
    next new =>
      rcases List.mem_cons.1 h with rfl | h
      · exact ⟨new, [], q, rfl, by simp⟩
      · obtain ⟨unseen, before, after, rfl, first⟩ := ih h
        rw [List.mem_cons, not_or] at unseen
        exact ⟨unseen.2, y :: before, after, rfl, List.forall_mem_cons.2 ⟨Ne.symm unseen.1, first⟩⟩

/-! ## The claims of the release unit -/

/-- The model's conditions on a requester (R53) are those of the statement form. -/
theorem State.mayRelease_iff (s : State) (r : RequesterId) :
    s.mayRelease r = true ↔ s.commit.pause = false ∧ s.restart = .idle ∧
      (s.active.global.mode = .regulating →
        (s.restraint r).standing = .free ∧ ((s.entry r).regulated = false ∨ 1 ≤ (s.account r).balance)) := by
  simp [State.mayRelease, State.regulating, and_assoc, imp_iff_not_or]

theorem State.eligibleAfter_iff (s : State) (before : List HeldEntry) (e : HeldEntry) :
    EligibleAfter s before e ↔ (∃ after, s.hold = before ++ e :: after) ∧
      (∀ x ∈ before, x.txn.requester ≠ e.txn.requester) ∧ s.mayRelease e.txn.requester = true := by
  rw [State.mayRelease_iff, EligibleAfter]

/-- A first-listed entry of an initial part of the queue, of a requester that may release, is eligible. -/
theorem State.exists_eligibleAfter_of_mem_firstListed {s : State} {p rest : List HeldEntry} {x : HeldEntry}
    (hold : s.hold = p ++ rest) (h : x ∈ (firstListed p).filter fun e => s.mayRelease e.txn.requester) :
    ∃ other, EligibleAfter s other x ∧ other.length < p.length := by
  obtain ⟨listed, may⟩ := List.mem_filter.1 h
  obtain ⟨-, other, after, rfl, first⟩ := exists_append_cons_of_mem_firstListedFrom listed
  exact ⟨other, (s.eligibleAfter_iff other x).2 ⟨⟨after ++ rest, by simp [hold]⟩, first, may⟩, by simp⟩

/-- Every claim is for an eligible entry. -/
theorem State.exists_eligibleAfter_of_mem_claims {s : State} {x : HeldEntry} (h : x ∈ s.claims) :
    ∃ other, EligibleAfter s other x := by
  obtain ⟨other, eligible, -⟩ := State.exists_eligibleAfter_of_mem_firstListed (s.hold.append_nil).symm h
  exact ⟨other, eligible⟩

/-- An eligible entry is claimed for, and the claims before its own are for eligible entries listed before it. -/
theorem State.claims_eq_of_eligibleAfter {s : State} {before : List HeldEntry} {e : HeldEntry}
    (h : EligibleAfter s before e) :
    ∃ earlier later, s.claims = earlier ++ e :: later ∧
      ∀ x ∈ earlier, ∃ other, EligibleAfter s other x ∧ other.length < before.length := by
  obtain ⟨⟨after, hold⟩, first, may⟩ := (s.eligibleAfter_iff before e).1 h
  obtain ⟨later, listed⟩ := firstListedFrom_append_cons before after e [] first List.not_mem_nil
  refine ⟨_, later.filter fun x => s.mayRelease x.txn.requester, ?_,
    fun x hx => State.exists_eligibleAfter_of_mem_firstListed hold hx⟩
  rw [State.claims, firstListed, hold, listed, List.filter_append, List.filter_cons, if_pos may,
    firstListed]

/-! ## The selection -/

/-- The maximum is at an element that is above all before it and not below any after it. -/
theorem argmax_append_cons {α : Type} [DecidableEq α] {f : α → Nat} {earlier later : List α} {a : α}
    (above : ∀ x ∈ earlier, f x < f a) (notBelow : ∀ x ∈ later, f x ≤ f a) :
    (earlier ++ a :: later).argmax f = some a := by
  refine List.argmax_eq_some_iff.2 ⟨by simp, ?_, fun x _ top => ?_⟩
  · simpa [or_imp, forall_and] using ⟨fun x hx => (above x hx).le, notBelow⟩
  · have notEarlier : ∀ y, f a ≤ f y → y ∉ earlier := fun y top mem => (above y mem).not_ge top
    rw [List.idxOf_append_of_notMem (notEarlier a le_rfl), List.idxOf_append_of_notMem (notEarlier x top),
      List.idxOf_cons_self]
    omega

/-- The selection is the first of the claims with the highest level (R54). -/
theorem State.selected_eq_argmax (s : State) :
    s.selected = s.claims.argmax fun e => (s.entry e.txn.requester).level := by
  have better : s.better = List.argAux fun e b : HeldEntry =>
      (s.entry b.txn.requester).level < (s.entry e.txn.requester).level := by
    funext best e
    cases best <;> rfl
  rw [State.selected, better, List.argmax]

/-- The eligible entry of the highest level, earliest-listed among equals, is selected. -/
theorem State.selected_of_highest {s : State} {before : List HeldEntry} {e : HeldEntry}
    (eligible : EligibleAfter s before e)
    (highest : ∀ (other : List HeldEntry) (x : HeldEntry), EligibleAfter s other x →
      (s.entry x.txn.requester).level < (s.entry e.txn.requester).level ∨
        ((s.entry x.txn.requester).level = (s.entry e.txn.requester).level ∧ before.length ≤ other.length)) :
    s.selected = some e := by
  obtain ⟨earlier, later, claims, listedBefore⟩ := State.claims_eq_of_eligibleAfter eligible
  rw [State.selected_eq_argmax, claims]
  refine argmax_append_cons (fun x hx => ?_) (fun x hx => ?_)
  · obtain ⟨other, eligible, shorter⟩ := listedBefore x hx
    exact (highest other x eligible).resolve_right fun tie => tie.2.not_gt shorter
  · obtain ⟨other, eligible⟩ := State.exists_eligibleAfter_of_mem_claims (s := s) (x := x) (by simp [claims, hx])
    exact (highest other x eligible).elim le_of_lt fun tie => tie.1.le

/-! ## The release -/

/-- The release unit has a free entry unless the queue is full or its last one is granted to a waiting request (R102). -/
theorem State.releaseRoom_iff (s : State) :
    s.releaseRoom = true ↔ s.issueQueue.length < 8 ∧ (s.issueQueue.length = 7 → s.uPort ≠ .granted) := by
  rw [State.releaseRoom, decide_eq_true_iff, Config.issueCapacity]
  split
  next granted => simp only [granted, ne_eq, not_true_eq_false, imp_false]; omega
  next other => simp [other]

/-- A release takes the selected entry, its requester's first-listed, out of the list and to the tail of the issue queue
(R55). -/
theorem State.releaseOne_of_selected {s : State} {before after : List HeldEntry} {e : HeldEntry}
    (room : s.releaseRoom = true) (selected : s.selected = some e) (hold : s.hold = before ++ e :: after)
    (first : ∀ x ∈ before, x.txn.requester ≠ e.txn.requester) :
    s.releaseOne = { s.withJoined e.txn with hold := before ++ after } := by
  have left : (s.hold.eraseP fun x => decide (x.txn.requester = e.txn.requester)) = before ++ after := by
    rw [hold, List.eraseP_append_right _ (by simpa using first), List.eraseP_cons_of_pos (by simp)]
  rw [State.releaseOne, if_pos room, selected]
  simp only [left, State.join_eq]
  rfl

/-- On a part with nothing due a release is taken from that part with empty ports. -/
theorem exec_heldEntryRelease_of_settled {s : State} (settled : s.settled = true) :
    exec .heldEntryRelease s = .next s.clearOut.releaseOne := by
  have arm : exec .heldEntryRelease s = .next s.begin.releaseOne := rfl
  rw [arm, State.begin_of_settled settled]

/-! ## The obligation -/

/-- Settles O24: the claims are searched for the first of the highest level, and the one found is moved. Neither the
search nor the free entry depends on the ports, which the command empties first. -/
theorem releaseTakesHighestLevelThenEarliest : Obligations.ReleaseTakesHighestLevelThenEarliest := by
  intro s before after e settled free notGranted hold eligible highest
  have room : s.clearOut.releaseRoom = true := s.releaseRoom_iff.2 ⟨free, notGranted⟩
  have selected : s.clearOut.selected = some e := State.selected_of_highest (s := s) eligible highest
  obtain ⟨-, first, -⟩ := (s.eligibleAfter_iff before e).1 eligible
  rw [exec_heldEntryRelease_of_settled settled, State.releaseOne_of_selected room selected hold first]

end Sys2Proof.Machine
end

section
/-! PROOFS. The RELEASE command (chapter 5): what its action does with the number it names, and what the transfer makes of
the action's result. -/

namespace Sys2Proof.Machine

/-! ## The number a command names -/

theorem requesterOfByte_eq_none {index : Byte} (h : 31 < index.toNat) : requesterOfByte index = none :=
  dif_neg (by omega)

theorem requesterOfByte_eq_some {index : Byte} {r : RequesterId} (h : index.toNat = r.val) :
    requesterOfByte index = some r := by
  have below : index.toNat < 32 := h ▸ r.isLt
  rw [requesterOfByte, dif_pos below]
  exact congrArg some (Fin.ext h)

/-! ## A transfer whose action shifts nothing out -/

/-- A command whose action puts nothing on the M-link leaves the part of its action with the answer in the store, and on
the port the fill bytes of its own transfer (R171, R172). -/
theorem State.run_eq_withAnswer {s : State} (ready : s.linkReady = true) (seq code : Byte) (p : Nat)
    {act : State → CommandResult} (quiet : (act s.clearOut).state.out.shifted = []) :
    s.run seq code p act =
      (act s.clearOut).state.withAnswer seq code (6 + p) (act s.clearOut).status (act s.clearOut).results := by
  rw [State.run_of_ready ready, State.store, State.shiftOut, State.withAnswer]
  simp only [quiet, List.nil_append]

/-! ## The action -/

/-- A number above 31 is refused before anything of the part is read (R185). -/
theorem actRelease_of_no_requester {index : Byte} (h : 31 < index.toNat) (s : State) :
    actRelease index s = refusedWith s .badIndex := by
  rw [actRelease, requesterOfByte_eq_none h]

/-- For a requester the table of R92 decides: its presence first, then its standing. -/
theorem actRelease_of_requester {index : Byte} {r : RequesterId} (h : index.toNat = r.val) (s : State) :
    actRelease index s =
      if (s.entry r).present then
        if (s.restraint r).standing = .free then acted s else acted (s.setRestraint r Restraint.clean)
      else refusedWith s .notPresent := by
  rw [actRelease, requesterOfByte_eq_some h]

/-- Whatever the action comes to, it puts nothing on the ports. -/
theorem actRelease_out (index : Byte) (s : State) : (actRelease index s).state.out = s.out := by
  unfold actRelease
  split
  · rfl
  · split
    · split <;> rfl
    · rfl

/-- The command's next state is the part of the action's result, with its status in the answer store. -/
theorem exec_release_of_result {s : State} {seq index : Byte} {result : CommandResult} (ready : s.linkReady = true)
    (h : actRelease index s.clearOut = result) :
    exec (.release seq index) s =
      .next (result.state.withAnswer seq codeRelease 7 result.status result.results) := by
  have arm : exec (.release seq index) s = .next (s.run seq codeRelease 1 (actRelease index)) := rfl
  have quiet : (actRelease index s.clearOut).state.out.shifted = [] := by rw [actRelease_out]; rfl
  rw [arm, State.run_eq_withAnswer ready seq codeRelease 1 quiet, h]

/-! ## The obligation -/

/-- Settles O45: one row of the table of R92 at a time, after the number itself. Neither the entry nor the restraint record
of a requester depends on the ports, which the command empties first. -/
theorem releaseCommandFreesRestrainedRequesters : Obligations.ReleaseCommandFreesRestrainedRequesters := by
  intro s seq index ready
  refine ⟨fun above => exec_release_of_result ready (actRelease_of_no_requester above _), fun r named => ?_⟩
  have action := actRelease_of_requester named s.clearOut
  refine ⟨fun absent => ?_, fun present free => ?_, fun present restrained => ?_⟩
  · have refused : actRelease index s.clearOut = refusedWith s.clearOut .notPresent :=
      action.trans (if_neg (Bool.eq_false_iff.1 absent))
    exact exec_release_of_result ready refused
  · have kept : actRelease index s.clearOut = acted s.clearOut :=
      action.trans ((if_pos present).trans (if_pos free))
    exact exec_release_of_result ready kept
  · have freed : actRelease index s.clearOut = acted (s.clearOut.setRestraint r Restraint.clean) :=
      action.trans ((if_pos present).trans (if_neg restrained))
    exact exec_release_of_result ready freed

end Sys2Proof.Machine
end

section
/-! PROOFS. Segment splitting (chapter 6): the first boundary above an aligned address, on which side of it a transaction's
last byte lies, and the pieces that follow. -/

namespace Sys2Proof.Machine

/-! ## Well-formed transactions -/

/-- The four tests of R25, passed. -/
theorem not_malformed_iff (x : Transaction) :
    ¬ Malformed x ↔ 16 ∣ x.address.toNat ∧ 1 ≤ x.length.val ∧ x.length.val ≤ 16 ∧
      x.address.toNat + 16 * x.length.val ≤ 2 ^ 40 := by
  rw [Malformed]
  omega

/-! ## The first boundary -/

theorem firstBoundary_eq (x : Transaction) : firstBoundary x = (x.address.toNat / 2048 + 1) * 2048 := rfl

theorem segmentBytes_dvd_firstBoundary (x : Transaction) : 2048 ∣ firstBoundary x := ⟨_, Nat.mul_comm _ _⟩

theorem address_lt_firstBoundary (x : Transaction) : x.address.toNat < firstBoundary x := by
  rw [firstBoundary_eq]
  omega

/-- A byte at or above the address is in the address's segment exactly when it is below the first boundary. -/
theorem segment_eq_iff_lt_firstBoundary (x : Transaction) {b : Nat} (above : x.address.toNat ≤ b) :
    x.address.toNat / 2048 = b / 2048 ↔ b < firstBoundary x := by
  rw [firstBoundary_eq]
  omega

/-! ## Crossing -/

theorem crosses_iff (x : Transaction) :
    crosses x = true ↔ firstBoundary x < x.address.toNat + 16 * x.length.val := decide_eq_true_iff

/-- The model's test of the byte after the last one is the test of R105 on the last byte. -/
theorem crosses_iff_firstBoundary_le_lastByte {x : Transaction} (nonempty : 1 ≤ x.length.val) :
    crosses x = true ↔ firstBoundary x ≤ x.address.toNat + 16 * x.length.val - 1 := by
  rw [crosses_iff]
  omega

/-- A transaction that does not cross ends in the segment it starts in. -/
theorem segment_eq_of_not_crosses {x : Transaction} (nonempty : 1 ≤ x.length.val) (unsplit : crosses x = false) :
    x.address.toNat / 2048 = (x.address.toNat + 16 * x.length.val - 1) / 2048 := by
  have below : ¬ firstBoundary x ≤ x.address.toNat + 16 * x.length.val - 1 :=
    mt (crosses_iff_firstBoundary_le_lastByte nonempty).2 (Bool.eq_false_iff.1 unsplit)
  exact (segment_eq_iff_lt_firstBoundary x (by omega)).2 (Nat.lt_of_not_le below)

/-- The boundary that a transaction inside the address space crosses has a whole segment above it. -/
theorem firstBoundary_le_of_crosses {x : Transaction} (inside : x.address.toNat + 16 * x.length.val ≤ 2 ^ 40)
    (split : crosses x = true) : firstBoundary x ≤ 2 ^ 40 - 2048 := by
  have crossed := (crosses_iff x).1 split
  have aligned := segmentBytes_dvd_firstBoundary x
  omega

/-! ## The pieces -/

/-- From an aligned address the FIRST piece's beats end exactly at the boundary. -/
theorem address_add_firstBeats {x : Transaction} (aligned : 16 ∣ x.address.toNat) :
    x.address.toNat + 16 * firstBeats x = firstBoundary x := by
  have beats : 16 ∣ firstBoundary x - x.address.toNat :=
    Nat.dvd_sub (Nat.dvd_trans (by decide) (segmentBytes_dvd_firstBoundary x)) aligned
  calc x.address.toNat + 16 * firstBeats x
      = x.address.toNat + (firstBoundary x - x.address.toNat) := congrArg _ (Nat.mul_div_cancel' beats)
    _ = firstBoundary x := Nat.add_sub_cancel' (address_lt_firstBoundary x).le

theorem firstBeats_pos {x : Transaction} (aligned : 16 ∣ x.address.toNat) : 1 ≤ firstBeats x := by
  have ends := address_add_firstBeats aligned
  have below := address_lt_firstBoundary x
  omega

/-- A crossing transaction has beats left for the SECOND piece. -/
theorem firstBeats_lt_length {x : Transaction} (aligned : 16 ∣ x.address.toNat) (split : crosses x = true) :
    firstBeats x < x.length.val := by
  have ends := address_add_firstBeats aligned
  have crossed := (crosses_iff x).1 split
  omega

theorem secondPiece_address_toNat {x : Transaction} (inside : firstBoundary x < 2 ^ 40) :
    (secondPiece x).address.toNat = firstBoundary x := by
  rw [secondPiece, BitVec.toNat_ofNat, Nat.mod_eq_of_lt inside]

theorem secondPiece_length (x : Transaction) : (secondPiece x).length = x.length.val - firstBeats x := rfl

/-- The write data is divided in order (R106). -/
theorem firstPiece_data_append_secondPiece_data (x : Transaction) :
    (firstPiece x).data ++ (secondPiece x).data = x.data := List.take_append_drop _ _

/-! ## The obligation -/

/-- Settles O27: an aligned address puts the boundary a whole number of beats above it, and a crossing transaction has at
least one of its at most 16 beats on each side. -/
theorem piecesStayWithinSegments : Obligations.PiecesStayWithinSegments := by
  intro x wellFormed
  obtain ⟨aligned, nonempty, short, inside⟩ := (not_malformed_iff x).1 wellFormed
  refine ⟨crosses_iff_firstBoundary_le_lastByte nonempty,
    fun unsplit => ⟨rfl, rfl, rfl, segment_eq_of_not_crosses nonempty unsplit⟩, fun split => ?_⟩
  have boundary := firstBoundary_le_of_crosses inside split
  have second : (secondPiece x).address.toNat = firstBoundary x := secondPiece_address_toNat (by omega)
  have first : 1 ≤ firstBeats x := firstBeats_pos aligned
  have rest : firstBeats x < x.length.val := firstBeats_lt_length aligned split
  have firstLength : (firstPiece x).length = firstBeats x := rfl
  rw [firstLength, secondPiece_length]
  exact ⟨rfl, rfl, rfl, rfl, address_add_firstBeats aligned, second, second.trans_le boundary, first, by omega,
    by omega, by omega, by omega, firstPiece_data_append_secondPiece_data x⟩

end Sys2Proof.Machine
end

section
/-! PROOFS. Late and stray completions (section 7.4): what a completion does to a slot that is not ISSUED, and the
references it takes from the other records. -/

namespace Sys2Proof.Machine

/-! ## One slot goes FREE -/

/-- When one slot goes FREE, a record loses its reference exactly when it named that slot (R126). -/
theorem SlotRecord.forget_single (r : SlotRecord) (i : SlotId) :
    r.forget (fun j => decide (j = i)) = { r with partner := if r.partner = some i then none else r.partner } := by
  unfold SlotRecord.forget
  split
  next alone => rw [if_neg (by simp [alone])]
  next p partner =>
    by_cases named : p = i
    · simp [partner, named]
    · have other : r.partner ≠ some i := by simpa [partner] using named
      simp [named, other]

theorem State.freeSlot_slot (s : State) (i j : SlotId) :
    (s.freeSlot i).slot j = if j = i then .free else (s.slot j).forget fun k => decide (k = i) := by
  rw [State.freeSlot, State.freeSlots_slot]
  simp only [decide_eq_true_eq]

/-! ## A completion for a slot that is not ISSUED -/

theorem State.complete_of_abandoned {s : State} {i : SlotId} {q : SlotRecord} (h : s.slot i = .abandoned q)
    (o : CompletionOutcome) (data : List Beat) :
    s.complete i o data = (s.withIncidents [.lateCompletion i]).freeSlot i := by
  simp only [State.complete, h, State.record_eq]

theorem State.complete_of_free {s : State} {i : SlotId} (h : s.slot i = .free) (o : CompletionOutcome)
    (data : List Beat) : s.complete i o data = s.withIncidents [.strayCompletion i] := by
  simp only [State.complete, h, State.record_eq]

theorem State.complete_of_doneWaiting {s : State} {i : SlotId} {q : SlotRecord} (h : s.slot i = .doneWaiting q)
    (o : CompletionOutcome) (data : List Beat) : s.complete i o data = s.withIncidents [.strayCompletion i] := by
  simp only [State.complete, h, State.record_eq]

/-- On a part with nothing due a completion is taken from that part with empty ports. -/
theorem exec_completion_of_settled {s : State} (settled : s.settled = true) (i : SlotId) (o : CompletionOutcome)
    (data : List Beat) : exec (.completion i o data) s = .next (s.clearOut.complete i o data) := by
  have arm : exec (.completion i o data) s = .next (s.begin.complete i o data) := rfl
  rw [arm, State.begin_of_settled settled]

/-! ## The obligation -/

/-- Settles O31: the state of the slot alone decides, so outcome and data are not read. Every state of another slot keeps
its kind, and its record forgets the slot that went FREE. -/
theorem lateAndStrayCompletions : Obligations.LateAndStrayCompletions := by
  intro s i o data settled
  rw [exec_completion_of_settled settled]
  refine ⟨fun q abandoned => ?_, fun free => ?_, fun q waiting => ?_⟩
  · refine ⟨_, congrArg _ (State.complete_of_abandoned (s := s.clearOut) abandoned o data), rfl, fun j => ?_⟩
    have kept : (s.clearOut.withIncidents [.lateCompletion i]).slot j = s.slot j := rfl
    rw [State.freeSlot_slot, kept]
    refine if_congr Iff.rfl rfl ?_
    cases s.slot j with
    | free => rfl
    | issued w => exact congrArg Slot.issued (w.forget_single i)
    | doneWaiting w => exact congrArg Slot.doneWaiting (w.forget_single i)
    | abandoned w => exact congrArg Slot.abandoned (w.forget_single i)
  · exact congrArg _ (State.complete_of_free (s := s.clearOut) free o data)
  · exact congrArg _ (State.complete_of_doneWaiting (s := s.clearOut) waiting o data)

end Sys2Proof.Machine
end

section
/-! PROOFS. CANCEL_COMMIT and COPY_ACTIVE_TO_STAGED (chapter 8): the state of the commit controller alone decides what each
does. -/

namespace Sys2Proof.Machine

/-! ## The commit controller's state -/

theorem State.frozen_iff (s : State) : s.frozen = true ↔ s.commit.state ≠ .idle := decide_eq_true_iff

/-- With no commit to end there is nothing to drop (R152). -/
theorem State.dropCommit_of_idle {s : State} (idle : s.commit.state = .idle) (o : CommitOutcome) :
    s.dropCommit o = s :=
  if_neg fun frozen => s.frozen_iff.1 frozen idle

/-- An ARMED and a DRAINING commit end alike (R152). -/
theorem State.dropCommit_of_not_idle {s : State} (waiting : s.commit.state ≠ .idle) (o : CommitOutcome) :
    s.dropCommit o =
      { s with commit := { state := .idle, pause := false, outcome := o, outcomeWindow := s.timer.windowNumber } } :=
  if_pos (s.frozen_iff.2 waiting)

/-! ## The copy -/

theorem actCopyActiveToStaged_of_idle {s : State} (idle : s.commit.state = .idle) :
    actCopyActiveToStaged s = acted { s with staged := s.active } :=
  if_neg fun frozen => s.frozen_iff.1 frozen idle

theorem actCopyActiveToStaged_of_not_idle {s : State} (waiting : s.commit.state ≠ .idle) :
    actCopyActiveToStaged s = refusedWith s .frozen :=
  if_pos (s.frozen_iff.2 waiting)

/-! ## The transfers -/

/-- A command leaves the part of its action's result with the result in the answer store, when that part's ports are as
empty as the command found them. -/
theorem State.run_of_result {s : State} {act : State → CommandResult} {result : CommandResult}
    (ready : s.linkReady = true) (seq code : Byte) (p : Nat) (h : act s.clearOut = result)
    (out : result.state.out = Outputs.none) :
    s.run seq code p act = result.state.withAnswer seq code (6 + p) result.status result.results := by
  subst h
  exact State.run_eq_withAnswer ready seq code p (congrArg Outputs.shifted out)

/-- CANCEL_COMMIT answers DONE in every state; whether it drops a commit shows in the part alone. -/
theorem exec_cancelCommit_of_dropped {s t : State} {seq : Byte} (ready : s.linkReady = true)
    (h : s.clearOut.dropCommit .cancelled = t) (out : t.out = Outputs.none) :
    exec (.cancelCommit seq) s = .next (t.withAnswer seq codeCancelCommit 6 .done []) :=
  congrArg Host.Outcome.next
    (State.run_of_result (act := actCancelCommit) ready seq codeCancelCommit 0 (congrArg acted h) out)

theorem exec_copyActiveToStaged_of_result {s : State} {seq : Byte} {result : CommandResult}
    (ready : s.linkReady = true) (h : actCopyActiveToStaged s.clearOut = result)
    (out : result.state.out = Outputs.none) :
    exec (.copyActiveToStaged seq) s =
      .next (result.state.withAnswer seq codeCopyActiveToStaged 6 result.status result.results) :=
  congrArg Host.Outcome.next (State.run_of_result ready seq codeCopyActiveToStaged 0 h out)

/-! ## The obligation -/

/-- Settles O40: an IDLE commit controller or one that is not. Neither its state nor the window number depends on the
ports, which the command empties first. -/
theorem cancelAndCopyActByCommitState : Obligations.CancelAndCopyActByCommitState := by
  intro s seq ready
  refine ⟨fun idle => ?_, fun waiting => ?_⟩
  · have kept := State.dropCommit_of_idle (s := s.clearOut) idle .cancelled
    have copied := actCopyActiveToStaged_of_idle (s := s.clearOut) idle
    exact ⟨exec_cancelCommit_of_dropped ready kept rfl, exec_copyActiveToStaged_of_result ready copied rfl⟩
  · have dropped := State.dropCommit_of_not_idle (s := s.clearOut) waiting .cancelled
    have refused := actCopyActiveToStaged_of_not_idle (s := s.clearOut) waiting
    exact ⟨exec_cancelCommit_of_dropped ready dropped rfl, exec_copyActiveToStaged_of_result ready refused rfl⟩

end Sys2Proof.Machine
end

section
/-! PROOFS. The ALERT line (section 9.4): when two sets of causes meet, which causes are pending, and what that makes of
the line. -/

namespace Sys2Proof.Machine

/-! ## Sets of causes -/

/-- Two sets meet exactly when one of the seven causes is in both. -/
theorem AlertSet.meets_iff (a b : AlertSet) : a.meets b = true ↔
    (a.isolation = true ∧ b.isolation = true) ∨ (a.quarantine = true ∧ b.quarantine = true) ∨
    (a.commitDone = true ∧ b.commitDone = true) ∨ (a.commitFailed = true ∧ b.commitFailed = true) ∨
    (a.restartDone = true ∧ b.restartDone = true) ∨ (a.logLost = true ∧ b.logLost = true) ∨
    (a.logPending = true ∧ b.logPending = true) := by
  simp only [AlertSet.meets, Bool.or_eq_true, Bool.and_eq_true, or_assoc]

theorem AlertSet.empty_meets (b : AlertSet) : AlertSet.empty.meets b = false := by
  simp [AlertSet.meets, AlertSet.empty]

/-! ## The pending causes -/

/-- LOG_PENDING is not latched: it follows the log (R166). -/
theorem State.logPending_iff (s : State) : s.pendingCauses.logPending = true ↔ s.log.records ≠ [] := by
  simp [State.pendingCauses]

/-- After a full reset no cause is latched and the log is empty. -/
theorem State.reset_pendingCauses : State.reset.pendingCauses = AlertSet.empty := rfl

/-! ## The obligation -/

/-- Settles O52: the line is the meeting of the pending causes with the mask. A latched cause is pending as it stands in
the latch, and LOG_PENDING while the log holds a record. -/
theorem alertFollowsCausesAndMask : Obligations.AlertFollowsCausesAndMask := by
  refine ⟨?_, fun s => ?_⟩
  · rw [State.alertLine, State.reset_pendingCauses, AlertSet.empty_meets]
  · rw [State.alertLine, AlertSet.meets_iff, State.logPending_iff]
    rfl

end Sys2Proof.Machine
end

section
/-! PROOFS. ANSWER_READ (section 10.1): which frame is shifted out, and what the transfer leaves of the answer store. -/

namespace Sys2Proof.Machine

/-! ## The frame -/

theorem Link.frame_of_stored {l : Link} {a : Answer} (stored : l.answer = some a) : l.frame = a := by
  simp only [Link.frame, stored]

theorem Link.frame_of_empty {l : Link} (empty : l.answer = none) :
    l.frame = { seq := l.lastSeq, code := l.lastCode, status := .noAnswer, results := [] } := by
  simp only [Link.frame, empty]

/-! ## The transfer -/

/-- On a part with nothing due and no transfer to be ignored: the marker's fill byte and the bytes clocked after it on the
port, and the store empty, whatever it held (R171, R173). -/
theorem exec_answerRead_of_ready {s : State} (ready : s.linkReady = true) (n : Nat) :
    exec (.answerRead n) s = .next
      { s with
        link := { s.link with answer := none, select := .released }
        out := { responses := [], pieces := [], shifted := s.link.answerBytes n } } := by
  simp only [State.linkReady, Bool.and_eq_true, decide_eq_true_eq] at ready
  obtain ⟨settled, taken⟩ := ready
  have arm : exec (.answerRead n) s = .next (s.begin.answerRead n) := rfl
  rw [arm, State.begin_of_settled settled, State.answerRead, if_neg (show s.clearOut.link.select ≠ .ignored from taken)]
  rfl

/-! ## The obligation -/

/-- Settles O33: what the store holds decides only the frame. A store found empty is left as it was, so that consuming
from it changes nothing. -/
theorem answerReadShiftsAndConsumes : Obligations.AnswerReadShiftsAndConsumes := by
  intro s n ready
  rw [exec_answerRead_of_ready ready]
  refine ⟨fun a stored => ?_, fun empty => ?_⟩
  · rw [Link.answerBytes, Link.frame_of_stored stored]
    rfl
  · rw [Link.answerBytes, Link.frame_of_empty empty, ← empty]
    rfl

end Sys2Proof.Machine
end

section
/-! PROOFS. Runs of refusals and of incidents: how they combine, and what the expiry of held entries comes to. -/

namespace Sys2Proof.Machine

/-! ## Incidents handed over one after another -/

theorem IncidentLog.handed_records_length (l : IncidentLog) (w : BitVec 16) (is : List Incident) :
    (l.handed w is).records.length = max l.records.length (min (l.records.length + is.length) 32) := by
  induction is generalizing l with
  | nil => simp [IncidentLog.handed]
  | cons i is ih =>
    have first : l.handed w (i :: is) = (if l.records.length < 32 then l.append w i else l.drop).handed w is := rfl
    rw [first, ih, List.length_cons]
    split
    · simp only [IncidentLog.append, List.length_append, List.length_singleton]
      omega
    · simp only [IncidentLog.drop]
      omega

/-- A run of incidents overflows the log when its first part does or the rest does after it. -/
theorem IncidentLog.overflows_append (l : IncidentLog) (w : BitVec 16) (a b : List Incident) :
    l.overflows (a ++ b) = (l.overflows a || (l.handed w a).overflows b) := by
  cases a with
  | nil => rfl
  | cons i a =>
    cases b with
    | nil => simp [IncidentLog.overflows]
    | cons j b =>
      simp only [IncidentLog.overflows, IncidentLog.handed_records_length, List.isEmpty_cons, List.cons_append,
        Bool.not_false, Bool.true_and, ← Bool.decide_or, decide_eq_decide, List.length_cons, List.length_append]
      omega

theorem State.withIncidents_withIncidents (s : State) (a b : List Incident) :
    (s.withIncidents a).withIncidents b = s.withIncidents (a ++ b) := by
  simp [State.withIncidents, IncidentLog.handed_append, IncidentLog.overflows_append _ s.timer.windowNumber,
    Bool.or_assoc]

/-- One incident overflows exactly a full log. -/
theorem IncidentLog.overflows_singleton (l : IncidentLog) (i : Incident) :
    l.overflows [i] = decide (32 ≤ l.records.length) := by
  simp [IncidentLog.overflows]

/-! ## Runs of refusals -/

section
variable (s : State) (ts : List Transaction) (o : ResponseOutcome)

@[simp] theorem State.withRefusals_timer : (s.withRefusals ts o).timer = s.timer := rfl
@[simp] theorem State.withRefusals_staged : (s.withRefusals ts o).staged = s.staged := rfl
@[simp] theorem State.withRefusals_active : (s.withRefusals ts o).active = s.active := rfl
@[simp] theorem State.withRefusals_restraints : (s.withRefusals ts o).restraints = s.restraints := rfl
@[simp] theorem State.withRefusals_hold : (s.withRefusals ts o).hold = s.hold := rfl
@[simp] theorem State.withRefusals_issueQueue : (s.withRefusals ts o).issueQueue = s.issueQueue := rfl
@[simp] theorem State.withRefusals_slots : (s.withRefusals ts o).slots = s.slots := rfl
@[simp] theorem State.withRefusals_commit : (s.withRefusals ts o).commit = s.commit := rfl
@[simp] theorem State.withRefusals_restart : (s.withRefusals ts o).restart = s.restart := rfl
@[simp] theorem State.withRefusals_log : (s.withRefusals ts o).log = s.log := rfl
@[simp] theorem State.withRefusals_latched : (s.withRefusals ts o).latched = s.latched := rfl
@[simp] theorem State.withRefusals_mask : (s.withRefusals ts o).mask = s.mask := rfl
@[simp] theorem State.withRefusals_link : (s.withRefusals ts o).link = s.link := rfl
@[simp] theorem State.withRefusals_out : (s.withRefusals ts o).out =
    { s.out with responses := s.out.responses ++ ts.map fun x => plainResponse x.requester x.tag o } := rfl
@[simp] theorem State.withRefusals_uPort : (s.withRefusals ts o).uPort = s.uPort := rfl
@[simp] theorem State.withRefusals_timeoutCheck : (s.withRefusals ts o).timeoutCheck = s.timeoutCheck := rfl
@[simp] theorem State.withRefusals_forcedEnd : (s.withRefusals ts o).forcedEnd = s.forcedEnd := rfl
@[simp] theorem State.withRefusals_openChoices : (s.withRefusals ts o).openChoices = s.openChoices := rfl
@[simp] theorem State.withRefusals_pending : (s.withRefusals ts o).pending = s.pending := rfl

theorem State.withRefusals_account (r : RequesterId) :
    (s.withRefusals ts o).account r =
      if (s.entry r).present = true then (s.account r).refused o (ts.countP fun x => decide (x.requester = r))
      else s.account r :=
  Table.remap_get _ _ r

end

/-- Refusing two runs with the same outcome is refusing them as one. -/
theorem State.withRefusals_withRefusals (s : State) (a b : List Transaction) {o : ResponseOutcome}
    (ho : o = .retry ∨ o = .denied) : (s.withRefusals a o).withRefusals b o = s.withRefusals (a ++ b) o := by
  simp only [← State.refuseAll_eq _ _ _ ho, State.refuseAll, List.foldl_append]

/-- Answers and incidents do not touch each other. -/
theorem State.withIncidents_withRefusals (s : State) (is : List Incident) (ts : List Transaction)
    (o : ResponseOutcome) : (s.withIncidents is).withRefusals ts o = (s.withRefusals ts o).withIncidents is := rfl

theorem State.refuse_eq_withRefusals (s : State) (x : Transaction) {o : ResponseOutcome}
    (ho : o = .retry ∨ o = .denied) : s.refuse x o = s.withRefusals [x] o :=
  State.refuseAll_eq s [x] o ho

/-! ## The expiry of held entries (R50) -/

/-- The incident of an expired entry (R50). -/
def HeldEntry.expired (e : HeldEntry) : Incident := .holdExpired e.txn.requester e.txn.tag

theorem State.expireEntry_eq (s : State) (e : HeldEntry) :
    s.expireEntry e = (s.withRefusals [e.txn] .retry).withIncidents [e.expired] := by
  rw [State.expireEntry, State.refuse_eq_withRefusals _ _ (Or.inl rfl), State.record_eq, HeldEntry.expired]

/-- A run of expiries answers the entries in list order and records them in that order. -/
theorem State.foldl_expireEntry (s : State) (es : List HeldEntry) :
    es.foldl State.expireEntry s =
      (s.withRefusals (es.map HeldEntry.txn) .retry).withIncidents (es.map HeldEntry.expired) := by
  induction es generalizing s with
  | nil => simp [State.withRefusals_nil, State.withIncidents_nil]
  | cons e es ih =>
    rw [List.foldl_cons, ih, State.expireEntry_eq, State.withIncidents_withRefusals,
      State.withRefusals_withRefusals _ _ _ (Or.inl rfl), State.withIncidents_withIncidents]
    rfl

/-- The entries that satisfy a test expire: they leave the list, are answered RETRY and recorded, in list order. -/
def State.expiring (s : State) (gone : HeldEntry → Bool) : State :=
  ({ s with hold := s.hold.filter fun e => !gone e }.withRefusals ((s.hold.filter gone).map HeldEntry.txn)
    .retry).withIncidents ((s.hold.filter gone).map HeldEntry.expired)

theorem State.expireHold_eq (s : State) :
    s.expireHold = s.expiring (HeldEntry.overAge s.active.global.holdAgeLimit) :=
  State.foldl_expireEntry _ _

theorem State.expireBefore_eq (s : State) : s.expireBefore = s.expiring s.expiresNow :=
  State.foldl_expireEntry _ _

/-! ## The obligations -/

/-- Settles O51: a log of fewer than 32 records appends the incident, a full one counts it as lost. -/
theorem incidentIsRecordedOrDropped : Obligations.IncidentIsRecordedOrDropped := by
  intro s i
  exact ⟨fun room => if_pos room, fun full => if_neg (Nat.not_lt.2 full)⟩

/-- Settles O11: the entries over age are a run of expiries, and the test of their age is the same before and after the
ports are emptied. -/
theorem holdExpiryAnswersRetry : Obligations.HoldExpiryAnswersRetry := by
  intro s gone
  have arm : exec .holdExpiry s = .next s.clearOut.expireHold := rfl
  refine ⟨_, arm.trans (congrArg _ (State.expireHold_eq _)), rfl, ?_, ?_, fun r => ?_⟩
  · refine List.filter_congr fun e _ => ?_
    rw [HeldEntry.overAge, Bool.not_and, ← decide_not, ← decide_not]
    simp
  · exact congrArg (Outputs.mk · [] []) (List.map_map ..)
  · have account : (s.clearOut.expiring (HeldEntry.overAge s.clearOut.active.global.holdAgeLimit)).account r =
        if (s.entry r).present = true then
          (s.account r).refused .retry ((gone.map HeldEntry.txn).countP fun x => decide (x.requester = r))
        else s.account r := State.withRefusals_account _ _ _ r
    rw [account, List.countP_map]
    rfl

end Sys2Proof.Machine
end

section
/-! PROOFS. The restraint evaluation of a window end (section 5.3) as one change of the part: which records it writes, which
entries its escalations flush and what they record. -/

namespace Sys2Proof.Machine

/-! ## Entries by requester -/

/-- The entries of these requesters, requester by requester, each requester's in list order. -/
def entriesOf (hold : List HeldEntry) (rs : List RequesterId) : List HeldEntry :=
  rs.flatMap fun r => hold.filter fun e => decide (e.txn.requester = r)

/-- Gathered requester by requester they are the entries of these requesters in another order. -/
theorem entriesOf_perm (hold : List HeldEntry) {rs : List RequesterId} (nodup : rs.Nodup) :
    (entriesOf hold rs).Perm (hold.filter fun e => decide (e.txn.requester ∈ rs)) := by
  induction rs with
  | nil => simp [entriesOf]
  | cons r rs ih =>
    obtain ⟨fresh, nodup⟩ := List.nodup_cons.1 nodup
    have own : (hold.filter fun e => decide (e.txn.requester ∈ r :: rs)).filter
        (fun e => decide (e.txn.requester = r)) = hold.filter fun e => decide (e.txn.requester = r) := by
      rw [List.filter_filter]
      exact List.filter_congr fun e _ => by by_cases h : e.txn.requester = r <;> simp [h]
    have others : (hold.filter fun e => decide (e.txn.requester ∈ r :: rs)).filter
        (fun e => !decide (e.txn.requester = r)) = hold.filter fun e => decide (e.txn.requester ∈ rs) := by
      rw [List.filter_filter]
      refine List.filter_congr fun e _ => ?_
      by_cases h : e.txn.requester = r
      · simp [h, fresh]
      · simp [h]
    have split := List.filter_append_perm (fun e => decide (e.txn.requester = r))
      (hold.filter fun e => decide (e.txn.requester ∈ r :: rs))
    rw [own, others] at split
    exact ((ih nodup).append_left _).trans split

theorem entriesOf_append (hold : List HeldEntry) (a b : List RequesterId) :
    entriesOf hold (a ++ b) = entriesOf hold a ++ entriesOf hold b := List.flatMap_append

/-- Taking out the entries of some requesters leaves those of the others. -/
theorem entriesOf_filter_not_mem (hold : List HeldEntry) {a b : List RequesterId} (apart : ∀ r ∈ b, r ∉ a) :
    entriesOf (hold.filter fun e => !decide (e.txn.requester ∈ a)) b = entriesOf hold b := by
  refine List.flatMap_congr fun r hr => ?_
  rw [List.filter_filter]
  refine List.filter_congr fun e _ => ?_
  by_cases own : e.txn.requester = r
  · simp [own, apart r hr]
  · simp [own]

/-! ## The escalation of a run of requesters -/

/-- The part after these requesters are escalated, but for their records: their entries flushed with DENIED, ISOLATION
latched when there is one, ESCALATED recorded for each (R60, R84, R89). -/
def State.escalating (s : State) (up : List RequesterId) : State :=
  ({ s with
      hold := s.hold.filter fun e => !decide (e.txn.requester ∈ up)
      latched := { s.latched with isolation := s.latched.isolation || !up.isEmpty } }.withRefusals
    ((entriesOf s.hold up).map HeldEntry.txn) .denied).withIncidents (up.map Incident.escalated)

theorem State.escalating_nil (s : State) : s.escalating [] = s := by
  simp [State.escalating, entriesOf, State.withRefusals_nil, State.withIncidents_nil]

/-- Two runs with no requester in common are one. -/
theorem State.escalating_escalating (s : State) {a b : List RequesterId} (apart : ∀ r ∈ b, r ∉ a) :
    (s.escalating a).escalating b = s.escalating (a ++ b) := by
  have hold : ((s.escalating a).escalating b).hold = (s.escalating (a ++ b)).hold := by
    simp [State.escalating, Bool.and_comm]
  have answered := State.withRefusals_withRefusals s ((entriesOf s.hold a).map HeldEntry.txn)
    ((entriesOf s.hold b).map HeldEntry.txn) (o := .denied) (Or.inr rfl)
  rw [← List.map_append, ← entriesOf_append] at answered
  have recorded := State.withIncidents_withIncidents s (a.map Incident.escalated) (b.map Incident.escalated)
  rw [← List.map_append] at recorded
  have entries : entriesOf (s.escalating a).hold b = entriesOf s.hold b := entriesOf_filter_not_mem _ apart
  have sameAccounts := congrArg State.accounts answered
  have sameOut := congrArg State.out answered
  have sameLog := congrArg State.log recorded
  have accounts : ((s.escalating a).escalating b).accounts = (s.escalating (a ++ b)).accounts := by
    rw [State.escalating, entries]
    exact sameAccounts
  have out : ((s.escalating a).escalating b).out = (s.escalating (a ++ b)).out := by
    rw [State.escalating, entries]
    exact sameOut
  have log : ((s.escalating a).escalating b).log = (s.escalating (a ++ b)).log := sameLog
  have latched : ((s.escalating a).escalating b).latched = (s.escalating (a ++ b)).latched := by
    have lost := congrArg (fun t => t.latched.logLost) recorded
    have isolation : (s.latched.isolation || !a.isEmpty || !b.isEmpty) =
        (s.latched.isolation || !(a ++ b).isEmpty) := by
      cases a <;> simp
    exact congrArg₂ (fun i l => { s.latched with isolation := i, logLost := l }) isolation lost
  change { s with
    hold := ((s.escalating a).escalating b).hold
    accounts := ((s.escalating a).escalating b).accounts
    out := ((s.escalating a).escalating b).out
    log := ((s.escalating a).escalating b).log
    latched := ((s.escalating a).escalating b).latched } = s.escalating (a ++ b)
  rw [hold, accounts, out, log, latched]
  rfl

/-! ## The evaluation of a run of requesters -/

/-- The record the evaluation leaves (R88, R89). -/
def State.recordEvaluated (s : State) (r : RequesterId) : Restraint :=
  if s.evaluates r then
    { (s.restraint r).evaluated with
      standing := if s.escalates r then .isolated else (s.restraint r).evaluated.standing }
  else s.restraint r

/-- The part after these requesters are evaluated, in list order. -/
def State.evaluatedFor (s : State) (rs : List RequesterId) : State :=
  { s.escalating (rs.filter s.escalates) with
    restraints := Table.remap s.restraints fun r x => if r ∈ rs then s.recordEvaluated r else x }

theorem State.evaluates_of_escalates {s : State} {r : RequesterId} (h : s.escalates r = true) :
    s.evaluates r = true := by
  simp only [State.escalates, Bool.and_eq_true] at h
  exact h.1.1

/-- Writing the evaluated record of one requester, in the form of a rewritten table. -/
theorem State.put_recordEvaluated (s : State) (r : RequesterId) :
    Table.put s.restraints r (s.recordEvaluated r) =
      Table.remap s.restraints fun q x => if q ∈ [r] then s.recordEvaluated q else x := by
  apply Table.ext_get
  intro q
  rw [Table.put_get, Table.remap_get]
  by_cases h : q = r <;> simp [h]

theorem State.setRestraint_restraint (s : State) (r q : RequesterId) (x : Restraint) :
    (s.setRestraint r x).restraint q = if q = r then x else s.restraint q := by
  rw [State.restraint, State.setRestraint_restraints, Table.put_get]
  rfl

theorem State.evaluatedFor_of_none {s : State} {rs : List RequesterId} (none : rs.filter s.escalates = []) :
    s.evaluatedFor rs =
      { s with restraints := Table.remap s.restraints fun r x => if r ∈ rs then s.recordEvaluated r else x } := by
  rw [State.evaluatedFor, none, State.escalating_nil]

/-- The evaluation of one requester (R88, R89) in the same form. -/
theorem State.evaluateRequester_eq (s : State) (r : RequesterId) : s.evaluateRequester r = s.evaluatedFor [r] := by
  by_cases evaluates : s.evaluates r = true
  · by_cases escalates : s.escalates r = true
    · have up : [r].filter s.escalates = [r] := by simp [escalates]
      have record : s.recordEvaluated r = { (s.restraint r).evaluated with standing := .isolated } := by
        rw [State.recordEvaluated, if_pos evaluates, if_pos escalates]
      have written : Table.put (Table.put s.restraints r (s.restraint r).evaluated) r
          { (s.restraint r).evaluated with standing := .isolated } =
          Table.remap s.restraints fun q x => if q ∈ [r] then s.recordEvaluated q else x := by
        rw [← State.put_recordEvaluated, record]
        exact Vector.set_set ..
      rw [State.evaluateRequester, if_pos evaluates, if_pos escalates, State.record_eq, State.isolate_eq,
        State.setRestraint_restraint, if_pos rfl, State.setRestraint_restraints, written, State.evaluatedFor, up]
      simp [State.escalating, entriesOf, State.withIncidents, State.withRefusals, State.latch, LatchedCauses.withIsolation,
        State.setRestraint, State.entry]
    · have up : [r].filter s.escalates = [] := by simp [escalates]
      have record : s.recordEvaluated r = (s.restraint r).evaluated := by
        rw [State.recordEvaluated, if_pos evaluates, if_neg escalates]
      rw [State.evaluateRequester, if_pos evaluates, if_neg escalates, State.evaluatedFor_of_none up,
        ← State.put_recordEvaluated, record, State.setRestraint]
  · have up : [r].filter s.escalates = [] := by
      simpa using fun h => evaluates (State.evaluates_of_escalates h)
    have record : s.recordEvaluated r = s.restraints[r] := if_neg evaluates
    rw [State.evaluateRequester, if_neg evaluates, State.evaluatedFor_of_none up, ← State.put_recordEvaluated,
      record, Table.put_self]

theorem State.evaluatedFor_restraint (s : State) (rs : List RequesterId) (r : RequesterId) :
    (s.evaluatedFor rs).restraint r = if r ∈ rs then s.recordEvaluated r else s.restraint r :=
  Table.remap_get _ _ r

/-- The evaluation of some requesters reaches no other's. -/
theorem State.evaluatedFor_evaluates {s : State} {rs : List RequesterId} {r : RequesterId} (other : r ∉ rs) :
    (s.evaluatedFor rs).evaluates r = s.evaluates r := by
  rw [State.evaluates, State.evaluates, State.evaluatedFor_restraint, if_neg other]
  rfl

theorem State.evaluatedFor_escalates {s : State} {rs : List RequesterId} {r : RequesterId} (other : r ∉ rs) :
    (s.evaluatedFor rs).escalates r = s.escalates r := by
  rw [State.escalates, State.escalates, State.evaluatedFor_evaluates other, State.evaluatedFor_restraint,
    if_neg other]
  rfl

theorem State.evaluatedFor_recordEvaluated {s : State} {rs : List RequesterId} {r : RequesterId} (other : r ∉ rs) :
    (s.evaluatedFor rs).recordEvaluated r = s.recordEvaluated r := by
  rw [State.recordEvaluated, State.recordEvaluated, State.evaluatedFor_evaluates other,
    State.evaluatedFor_escalates other, State.evaluatedFor_restraint, if_neg other]

/-- One requester evaluated before others that are not it: all evaluated in one. -/
theorem State.evaluatedFor_cons (s : State) {r : RequesterId} {rs : List RequesterId} (fresh : r ∉ rs) :
    (s.evaluatedFor [r]).evaluatedFor rs = s.evaluatedFor (r :: rs) := by
  have apart {q : RequesterId} (h : q ∈ rs) : q ∉ [r] := fun same => fresh (List.mem_singleton.1 same ▸ h)
  have later : rs.filter (s.evaluatedFor [r]).escalates = rs.filter s.escalates :=
    List.filter_congr fun q h => State.evaluatedFor_escalates (apart h)
  have up : (r :: rs).filter s.escalates = [r].filter s.escalates ++ rs.filter s.escalates :=
    List.filter_append (l₁ := [r]) rs
  have escalated : (s.escalating ([r].filter s.escalates)).escalating (rs.filter s.escalates) =
      s.escalating ((r :: rs).filter s.escalates) := by
    rw [up]
    exact s.escalating_escalating fun q h first => apart (List.mem_of_mem_filter h) (List.mem_of_mem_filter first)
  have restraints : ((s.evaluatedFor [r]).evaluatedFor rs).restraints = (s.evaluatedFor (r :: rs)).restraints := by
    apply Table.ext_get
    intro q
    change ((s.evaluatedFor [r]).evaluatedFor rs).restraint q = (s.evaluatedFor (r :: rs)).restraint q
    simp only [State.evaluatedFor_restraint]
    by_cases later : q ∈ rs
    · simp [later, State.evaluatedFor_recordEvaluated (apart later)]
    · simp [later]
  calc (s.evaluatedFor [r]).evaluatedFor rs
      = { (s.evaluatedFor [r]).escalating (rs.filter s.escalates) with
          restraints := ((s.evaluatedFor [r]).evaluatedFor rs).restraints } := by rw [State.evaluatedFor, later]
    _ = { s.escalating ((r :: rs).filter s.escalates) with
          restraints := (s.evaluatedFor (r :: rs)).restraints } := by rw [restraints, ← escalated]; rfl

/-- Requesters evaluated one after another, each once, are evaluated in one. -/
theorem State.foldl_evaluateRequester (s : State) {rs : List RequesterId} (nodup : rs.Nodup) :
    rs.foldl State.evaluateRequester s = s.evaluatedFor rs := by
  induction rs generalizing s with
  | nil =>
    have restraints : (Table.remap s.restraints fun r x => if r ∈ [] then s.recordEvaluated r else x) = s.restraints :=
      Table.ext_get fun r => by simp
    rw [List.foldl_nil, State.evaluatedFor_of_none rfl, restraints]
  | cons r rs ih =>
    obtain ⟨fresh, nodup⟩ := List.nodup_cons.1 nodup
    rw [List.foldl_cons, ih _ nodup, State.evaluateRequester_eq, State.evaluatedFor_cons _ fresh]

theorem State.evaluateAll_eq (s : State) : s.evaluateAll = s.evaluatedFor (List.finRange 32) :=
  s.foldl_evaluateRequester (List.nodup_finRange 32)

end Sys2Proof.Machine
end

section
/-! PROOFS. The blocks that record at a window end (R162): in whichever order they join the log, the part they leave differs
in the order of the records and of the responses alone. -/

namespace Sys2Proof.Machine

/-! ## What the evaluation reads -/

section
variable {s t : State} (active : t.active = s.active) (restraints : t.restraints = s.restraints)
include active

theorem State.entry_congr : t.entry = s.entry := by
  funext r
  rw [State.entry, active, State.entry]

theorem State.regulating_congr : t.regulating = s.regulating := by
  rw [State.regulating, active, State.regulating]

include restraints

theorem State.evaluates_congr : t.evaluates = s.evaluates := by
  funext r
  rw [State.evaluates, State.regulating_congr active, State.entry_congr active, State.restraint, restraints]
  rfl

theorem State.escalates_congr : t.escalates = s.escalates := by
  funext r
  rw [State.escalates, State.evaluates_congr active restraints, State.entry_congr active, State.restraint, restraints]
  rfl

theorem State.recordEvaluated_congr : t.recordEvaluated = s.recordEvaluated := by
  funext r
  rw [State.recordEvaluated, State.evaluates_congr active restraints, State.escalates_congr active restraints,
    State.restraint, restraints]
  rfl

end

/-! ## The expiry, field by field -/

section
variable (s : State) (gone : HeldEntry → Bool)

theorem State.expiring_hold : (s.expiring gone).hold = s.hold.filter fun e => !gone e := rfl

theorem State.expiring_log : (s.expiring gone).log =
    s.log.handed s.timer.windowNumber ((s.hold.filter gone).map HeldEntry.expired) := rfl

theorem State.expiring_latched : (s.expiring gone).latched = { s.latched with
    logLost := s.latched.logLost || s.log.overflows ((s.hold.filter gone).map HeldEntry.expired) } := rfl

theorem State.expiring_out : (s.expiring gone).out =
    { s.out with responses := s.out.responses ++ answersTo (s.hold.filter gone) .retry } := by
  simp only [State.expiring, State.withIncidents_out, State.withRefusals_out, List.map_map, answersTo]
  rfl

theorem State.expiring_account (r : RequesterId) : (s.expiring gone).account r =
    if (s.entry r).present = true then
      (s.account r).refused .retry ((s.hold.filter gone).countP fun e => decide (e.txn.requester = r))
    else s.account r := by
  have account := State.withRefusals_account { s with hold := s.hold.filter fun e => !gone e }
    ((s.hold.filter gone).map HeldEntry.txn) .retry r
  rw [List.countP_map] at account
  exact account

end

theorem State.expiring_congr {s : State} {f g : HeldEntry → Bool} (h : ∀ e ∈ s.hold, f e = g e) :
    s.expiring f = s.expiring g := by
  have gone : s.hold.filter f = s.hold.filter g := List.filter_congr h
  have kept : (s.hold.filter fun e => !f e) = s.hold.filter fun e => !g e :=
    List.filter_congr fun e he => by rw [h e he]
  rw [State.expiring, State.expiring, gone, kept]

theorem State.expiring_none (s : State) : s.expiring (fun _ => false) = s := by
  simp [State.expiring, State.withRefusals_nil, State.withIncidents_nil]

/-! ## The evaluation of all requesters, field by field -/

/-- The requesters the evaluation escalates, in ascending order (R87, R89). -/
def State.escalatedNow (s : State) : List RequesterId := (List.finRange 32).filter s.escalates

theorem State.mem_escalatedNow (s : State) (r : RequesterId) : r ∈ s.escalatedNow ↔ s.escalates r = true := by
  simp [State.escalatedNow]

theorem State.escalatedNow_congr {s t : State} (active : t.active = s.active) (restraints : t.restraints = s.restraints) :
    t.escalatedNow = s.escalatedNow := by
  rw [State.escalatedNow, State.escalates_congr active restraints, State.escalatedNow]

/-- The entries of the requesters the evaluation escalates (R60). -/
def State.escalatedNowEntries (s : State) : List HeldEntry := entriesOf s.hold s.escalatedNow

section
variable (s : State)

theorem State.evaluateAll_hold :
    s.evaluateAll.hold = s.hold.filter fun e => !s.escalates e.txn.requester := by
  rw [State.evaluateAll_eq]
  exact List.filter_congr fun e _ => by simp

theorem State.evaluateAll_log : s.evaluateAll.log =
    s.log.handed s.timer.windowNumber (s.escalatedNow.map Incident.escalated) := by
  rw [State.evaluateAll_eq]
  rfl

theorem State.evaluateAll_latched : s.evaluateAll.latched = { s.latched with
    isolation := s.latched.isolation || !s.escalatedNow.isEmpty
    logLost := s.latched.logLost || s.log.overflows (s.escalatedNow.map Incident.escalated) } := by
  rw [State.evaluateAll_eq]
  rfl

theorem State.evaluateAll_out : s.evaluateAll.out =
    { s.out with responses := s.out.responses ++ answersTo s.escalatedNowEntries .denied } := by
  rw [State.evaluateAll_eq]
  simp only [State.evaluatedFor, State.escalating, State.withIncidents_out, State.withRefusals_out, List.map_map,
    answersTo]
  rfl

theorem State.evaluateAll_restraint (r : RequesterId) : s.evaluateAll.restraint r = s.recordEvaluated r := by
  rw [State.evaluateAll_eq, State.evaluatedFor_restraint, if_pos (List.mem_finRange r)]

/-- Of the entries flushed, those of one requester are all it holds when it is escalated, and none otherwise. -/
theorem State.countP_escalatedNowEntries (p : HeldEntry → Bool) :
    s.escalatedNowEntries.countP p = s.hold.countP fun e => s.escalates e.txn.requester && p e := by
  have perm := entriesOf_perm s.hold (rs := s.escalatedNow) ((List.nodup_finRange 32).filter _)
  rw [State.escalatedNowEntries, perm.countP_eq, List.countP_filter]
  exact List.countP_congr fun e _ => by simp [State.mem_escalatedNow, and_comm]

theorem State.evaluateAll_account (r : RequesterId) : s.evaluateAll.account r =
    if (s.entry r).present = true then
      (s.account r).refused .denied (s.hold.countP fun e => s.escalates e.txn.requester && decide (e.txn.requester = r))
    else s.account r := by
  have account := State.withRefusals_account s (s.escalatedNowEntries.map HeldEntry.txn) .denied r
  rw [List.countP_map] at account
  rw [State.evaluateAll_eq, ← State.countP_escalatedNowEntries]
  exact account

theorem State.evaluateAll_frame : s.evaluateAll =
    { s with accounts := s.evaluateAll.accounts, restraints := s.evaluateAll.restraints, hold := s.evaluateAll.hold
             log := s.evaluateAll.log, latched := s.evaluateAll.latched, out := s.evaluateAll.out } := by
  rw [State.evaluateAll_eq]
  rfl

/-- What is evaluated once is not escalated by a second reading: an ISOLATED requester is not evaluated, and any other
stands below its limit (R89). -/
theorem State.evaluateAll_escalates (r : RequesterId) : s.evaluateAll.escalates r = false := by
  have active : s.evaluateAll.active = s.active := by rw [State.evaluateAll_frame]
  have entry : s.evaluateAll.entry r = s.entry r := by rw [State.entry, active, State.entry]
  have regulating : s.evaluateAll.regulating = s.regulating := by rw [State.regulating, active, State.regulating]
  rw [State.escalates, State.evaluates, State.evaluateAll_restraint, entry, regulating, State.recordEvaluated]
  by_cases evaluates : s.evaluates r = true
  · by_cases escalates : s.escalates r = true
    · simp [evaluates, escalates]
    · have calm : (s.entry r).escalationLimit ≠ 0 →
          (s.restraint r).evaluated.strikes < (s.entry r).escalationLimit := by
        simpa [State.escalates, evaluates] using escalates
      have curbHit : (s.restraint r).evaluated.curbHit = false := by
        unfold Restraint.evaluated
        split <;> rfl
      have later : (s.restraint r).evaluated.evaluated.strikes ≤ (s.restraint r).evaluated.strikes := by
        rw [Restraint.evaluated, curbHit, if_neg Bool.false_ne_true]
        exact Nat.sub_le _ _
      rw [if_pos evaluates, if_neg escalates]
      by_cases limit : (s.entry r).escalationLimit = 0
      · simp [limit]
      · have below : ¬ (s.entry r).escalationLimit ≤ (s.restraint r).evaluated.evaluated.strikes :=
          Nat.not_le.2 (later.trans_lt (calm limit))
        simp [below]
  · rw [if_neg evaluates, ← State.evaluates, Bool.eq_false_iff.2 evaluates]
    rfl

end

/-! ## The blocks together -/

/-- The incident of an apply at this window end (R151). -/
def appliedRecord (applied : Bool) : List Incident := if applied then [.commitApplied] else []

theorem State.recordApplied_eq (applied : Bool) (s : State) :
    State.recordApplied applied s = s.withIncidents (appliedRecord applied) := by
  cases applied
  · exact s.withIncidents_nil.symm
  · exact s.record_eq _

/-- What the blocks that record leave of the part `s` once the entries that satisfy `gone` have expired (R50, R60, R87 to
R89, R151); in which order the blocks came is open (R162). -/
structure Joins (applied : Bool) (gone : HeldEntry → Bool) (s t : State) : Prop where
  frame : t = { s with accounts := t.accounts, restraints := t.restraints, hold := t.hold, log := t.log,
                       latched := t.latched, out := t.out, openChoices := t.openChoices }
  restraint : ∀ r : RequesterId, t.restraint r = s.recordEvaluated r
  hold : t.hold = s.hold.filter fun e => !s.escalates e.txn.requester && !gone e
  account : ∀ r : RequesterId, t.account r =
    if (s.entry r).present = true then
      { s.account r with
        retryCount := (s.account r).retryCount +
          BitVec.ofNat 16 ((s.hold.filter gone).countP fun e => decide (e.txn.requester = r))
        deniedCount := (s.account r).deniedCount + BitVec.ofNat 16 (s.hold.countP fun e =>
          s.escalates e.txn.requester && decide (e.txn.requester = r)) }
    else s.account r
  out : ∃ answers : List (List Response),
    answers.Perm [answersTo s.escalatedNowEntries .denied, answersTo (s.hold.filter gone) .retry] ∧
    t.out = { s.out with responses := s.out.responses ++ answers.flatten }
  log : ∃ incidents : List (List Incident),
    incidents.Perm [appliedRecord applied, s.escalatedNow.map Incident.escalated,
      (s.hold.filter gone).map HeldEntry.expired] ∧
    t.log = s.log.handed s.timer.windowNumber incidents.flatten ∧
    t.latched = { s.latched with
      isolation := s.latched.isolation || !s.escalatedNow.isEmpty
      logLost := s.latched.logLost || s.log.overflows incidents.flatten }

section
variable {s : State} {gone : HeldEntry → Bool} (apart : ∀ e, gone e = true → s.escalates e.txn.requester = false)
include apart

theorem State.filter_gone_evaluateAll : s.evaluateAll.hold.filter gone = s.hold.filter gone := by
  rw [State.evaluateAll_hold, List.filter_filter]
  refine List.filter_congr fun e _ => ?_
  by_cases h : gone e = true
  · simp [h, apart e h]
  · simp [h]

theorem State.escalatedNowEntries_of_expired {t : State} (active : t.active = s.active)
    (restraints : t.restraints = s.restraints) (hold : t.hold = s.hold.filter fun e => !gone e) :
    t.escalatedNowEntries = s.escalatedNowEntries := by
  rw [State.escalatedNowEntries, State.escalatedNow_congr active restraints, hold]
  refine List.flatMap_congr fun r hr => ?_
  rw [List.filter_filter]
  refine List.filter_congr fun e _ => ?_
  by_cases own : e.txn.requester = r
  · have kept : gone e = false := by
      refine Bool.eq_false_iff.2 fun h => ?_
      have calm := apart e h
      rw [own, (s.mem_escalatedNow r).1 hr] at calm
      cases calm
    simp [own, kept]
  · simp [own]

/-- The expiry first and the evaluation after it, with the record of an apply in one of the three places around them. -/
theorem State.joins_expiring_evaluateAll {applied : Bool} {before between after : List Incident}
    {incidents : List (List Incident)}
    (perm : incidents.Perm [appliedRecord applied, s.escalatedNow.map Incident.escalated,
      (s.hold.filter gone).map HeldEntry.expired])
    (joined : incidents.flatten = before ++ (s.hold.filter gone).map HeldEntry.expired ++ between ++
      s.escalatedNow.map Incident.escalated ++ after) :
    Joins applied gone s
      (((((s.withIncidents before).expiring gone).withIncidents between).evaluateAll).withIncidents after) := by
  generalize first : ((s.withIncidents before).expiring gone).withIncidents between = x
  have account (r : RequesterId) : x.account r = if (s.entry r).present = true then
      (s.account r).refused .retry ((s.hold.filter gone).countP fun e => decide (e.txn.requester = r))
    else s.account r := by
    rw [← first]; exact State.expiring_account (s.withIncidents before) gone r
  have out : x.out = { s.out with responses := s.out.responses ++ answersTo (s.hold.filter gone) .retry } := by
    rw [← first]; exact State.expiring_out (s.withIncidents before) gone
  have log : x.log = s.log.handed s.timer.windowNumber
      (before ++ (s.hold.filter gone).map HeldEntry.expired ++ between) := by
    rw [IncidentLog.handed_append, IncidentLog.handed_append, ← first]; rfl
  have latched : x.latched = { s.latched with
      logLost := s.latched.logLost ||
        s.log.overflows (before ++ (s.hold.filter gone).map HeldEntry.expired ++ between) } := by
    rw [IncidentLog.overflows_append _ s.timer.windowNumber, IncidentLog.overflows_append _ s.timer.windowNumber,
      IncidentLog.handed_append, ← Bool.or_assoc, ← Bool.or_assoc, ← first]
    rfl
  have frame : x = { s with accounts := x.accounts, hold := s.hold.filter fun e => !gone e, log := x.log
                            latched := x.latched, out := x.out } := by
    rw [← first]; rfl
  clear first
  have hold : x.hold = s.hold.filter fun e => !gone e := congrArg (·.hold) frame
  have timer : x.timer = s.timer := congrArg (·.timer) frame
  have active : x.active = s.active := congrArg (·.active) frame
  have restraints : x.restraints = s.restraints := congrArg (·.restraints) frame
  have entries := State.escalatedNowEntries_of_expired apart active restraints hold
  have escalated := State.escalatedNow_congr active restraints
  have frame' := x.evaluateAll_frame
  have restraint' := x.evaluateAll_restraint
  have hold' := x.evaluateAll_hold
  have account' := x.evaluateAll_account
  have out' := x.evaluateAll_out
  have log' := x.evaluateAll_log
  have latched' := x.evaluateAll_latched
  generalize x.evaluateAll = y at frame' restraint' hold' account' out' log' latched' ⊢
  rw [log, timer, escalated, ← IncidentLog.handed_append] at log'
  refine ⟨?_, fun r => ?_, ?_, fun r => ?_, ?_, ?_⟩
  · rw [frame', frame]
    rfl
  · rw [← State.recordEvaluated_congr active restraints, ← restraint' r]
    rfl
  · rw [State.withIncidents_hold, hold', State.escalates_congr active restraints, hold, List.filter_filter]
  · change y.account r = _
    rw [account', ← State.countP_escalatedNowEntries, entries, State.countP_escalatedNowEntries,
      State.entry_congr active, account]
    split <;> rfl
  · refine ⟨_, List.Perm.swap _ _ [], ?_⟩
    rw [State.withIncidents_out, out', entries, out]
    simp
  · refine ⟨_, perm, ?_, ?_⟩
    · rw [joined, IncidentLog.handed_append, ← log', ← timer, State.withIncidents_log, frame']
    · rw [State.withIncidents_latched, latched', log', log, latched, escalated, joined,
        IncidentLog.overflows_append _ s.timer.windowNumber (_ ++ _) after,
        IncidentLog.overflows_append _ s.timer.windowNumber (_ ++ between)]
      simp only [Bool.or_assoc]

/-- The evaluation first and the expiry after it, then the record of an apply. -/
theorem State.joins_evaluateAll_expiring (applied : Bool) :
    Joins applied gone s ((s.evaluateAll.expiring gone).withIncidents (appliedRecord applied)) := by
  have expired := State.filter_gone_evaluateAll apart
  have frame := s.evaluateAll_frame
  have restraint := s.evaluateAll_restraint
  have hold := s.evaluateAll_hold
  have account := s.evaluateAll_account
  have out := s.evaluateAll_out
  have log := s.evaluateAll_log
  have latched := s.evaluateAll_latched
  generalize s.evaluateAll = y at expired frame restraint hold account out log latched ⊢
  have timer : y.timer = s.timer := congrArg (·.timer) frame
  have active : y.active = s.active := congrArg (·.active) frame
  have log' : (y.expiring gone).log = s.log.handed s.timer.windowNumber
      (s.escalatedNow.map Incident.escalated ++ (s.hold.filter gone).map HeldEntry.expired) := by
    rw [State.expiring_log, expired, log, timer, IncidentLog.handed_append]
  refine ⟨?_, restraint, ?_, fun r => ?_, ?_, ?_⟩
  · rw [frame]
    rfl
  · rw [State.withIncidents_hold, State.expiring_hold, hold, List.filter_filter]
    simp only [Bool.and_comm]
  · change (y.expiring gone).account r = _
    rw [State.expiring_account, expired, account, State.entry_congr active]
    split <;> rfl
  · refine ⟨_, List.Perm.refl _, ?_⟩
    rw [State.withIncidents_out, State.expiring_out, expired, out]
    simp
  · refine ⟨_, (List.perm_append_comm (l₁ := [_, _]) (l₂ := [appliedRecord applied])), ?_, ?_⟩
    · have timer' : (y.expiring gone).timer = s.timer := timer
      rw [State.withIncidents_log, log', timer', ← IncidentLog.handed_append]
      simp
    · rw [State.withIncidents_latched, log', State.expiring_latched, expired, log, latched]
      simp [IncidentLog.overflows_append _ s.timer.windowNumber, IncidentLog.handed_append, Bool.or_assoc]

end

/-- The model's count of open choices is no block's. -/
theorem Joins.of_openChoices {applied : Bool} {gone : HeldEntry → Bool} {s t : State} {n : Nat}
    (h : Joins applied gone { s with openChoices := n } t) : Joins applied gone s t :=
  ⟨h.frame, h.restraint, h.hold, h.account, h.out, h.log⟩

theorem State.joins_evaluateAll (s : State) (applied : Bool) :
    Joins applied (fun _ => false) s (State.recordApplied applied s.evaluateAll) := by
  have h := State.joins_evaluateAll_expiring (s := s) (gone := fun _ => false) (by simp) applied
  rwa [State.expiring_none, ← State.recordApplied_eq] at h

theorem State.joins_recordApplied (s : State) (applied : Bool) :
    Joins applied (fun _ => false) s (State.recordApplied applied s).evaluateAll := by
  have h := State.joins_expiring_evaluateAll (s := s) (gone := fun _ => false) (by simp) (applied := applied)
    (before := appliedRecord applied) (between := []) (after := [])
    (incidents := [appliedRecord applied, s.escalatedNow.map Incident.escalated, []]) (by simp) (by simp)
  rwa [State.expiring_none, State.withIncidents_nil, State.withIncidents_nil, ← State.recordApplied_eq] at h

theorem State.apart_expiresNow {s : State} (e : HeldEntry) (h : s.expiresNow e = true) :
    s.escalates e.txn.requester = false := by
  simp only [State.expiresNow, Bool.and_eq_true, Bool.not_eq_true'] at h
  exact h.2

/-- The expiry read after the evaluation finds the entries it would have found before it. -/
theorem State.expireBefore_evaluateAll (s : State) :
    s.evaluateAll.expireBefore = s.evaluateAll.expiring s.expiresNow := by
  have active : s.evaluateAll.active = s.active := congrArg (·.active) s.evaluateAll_frame
  rw [State.expireBefore_eq]
  refine State.expiring_congr fun e he => ?_
  rw [State.evaluateAll_hold, List.mem_filter] at he
  simp [State.expiresNow, active, State.evaluateAll_escalates, he.2]

theorem State.joins_evaluateAll_expireBefore (s : State) (applied : Bool) :
    Joins applied s.expiresNow s (State.recordApplied applied s.evaluateAll.expireBefore) := by
  rw [State.expireBefore_evaluateAll, State.recordApplied_eq]
  exact State.joins_evaluateAll_expiring State.apart_expiresNow applied

theorem State.joins_expireBefore_evaluateAll (s : State) (applied : Bool) :
    Joins applied s.expiresNow s (State.recordApplied applied s.expireBefore.evaluateAll) := by
  have h := State.joins_expiring_evaluateAll (s := s) State.apart_expiresNow (applied := applied)
    (before := []) (between := []) (after := appliedRecord applied)
    (incidents := [(s.hold.filter s.expiresNow).map HeldEntry.expired, s.escalatedNow.map Incident.escalated,
      appliedRecord applied]) (List.reverse_perm [_, _, _]) (by simp)
  rwa [State.withIncidents_nil, State.withIncidents_nil, ← State.expireBefore_eq, ← State.recordApplied_eq] at h

theorem State.joins_expireBefore_recordApplied (s : State) (applied : Bool) :
    Joins applied s.expiresNow s (State.recordApplied applied s.expireBefore).evaluateAll := by
  have h := State.joins_expiring_evaluateAll (s := s) State.apart_expiresNow (applied := applied)
    (before := []) (between := appliedRecord applied) (after := [])
    (incidents := [(s.hold.filter s.expiresNow).map HeldEntry.expired, appliedRecord applied,
      s.escalatedNow.map Incident.escalated]) (List.perm_append_comm (l₁ := [_]) (l₂ := [_, _])) (by simp)
  rwa [State.withIncidents_nil, State.withIncidents_nil, ← State.expireBefore_eq, ← State.recordApplied_eq] at h

theorem State.joins_recordApplied_expireBefore (s : State) (applied : Bool) :
    Joins applied s.expiresNow s (State.recordApplied applied s).expireBefore.evaluateAll := by
  have h := State.joins_expiring_evaluateAll (s := s) State.apart_expiresNow (applied := applied)
    (before := appliedRecord applied) (between := []) (after := [])
    (incidents := [appliedRecord applied, (s.hold.filter s.expiresNow).map HeldEntry.expired,
      s.escalatedNow.map Incident.escalated]) ((List.Perm.swap _ _ []).cons _) (by simp)
  have expires : (s.withIncidents (appliedRecord applied)).expiresNow = s.expiresNow := rfl
  rwa [State.withIncidents_nil, State.withIncidents_nil, ← expires, ← State.expireBefore_eq, expires,
    ← State.recordApplied_eq] at h

/-- In whichever order the blocks join the log, they leave what `Joins` says, with all entries that expire or with none. -/
theorem State.joins_joinInOpenOrder (s : State) (applied : Bool) :
    Joins applied (fun _ => false) s (s.joinInOpenOrder applied) ∨
      Joins applied s.expiresNow s (s.joinInOpenOrder applied) := by
  let u : State := { s with openChoices := s.openChoices + 1 }
  unfold State.joinInOpenOrder
  cases Config.escalatedJoinFirst s.openChoices <;> cases Config.expiryJoinsAt s.openChoices
  · exact .inr (Joins.of_openChoices (u.joins_expireBefore_recordApplied applied))
  · exact .inr (Joins.of_openChoices (u.joins_recordApplied_expireBefore applied))
  · exact .inl (Joins.of_openChoices (u.joins_recordApplied applied))
  · exact .inr (Joins.of_openChoices (u.joins_expireBefore_evaluateAll applied))
  · exact .inr (Joins.of_openChoices (u.joins_evaluateAll_expireBefore applied))
  · exact .inl (Joins.of_openChoices (u.joins_evaluateAll applied))

/-- At a window end all entries that expire do so beside another block's record, or none does yet. -/
theorem State.joins_joinRecords (s : State) (applied : Bool) :
    Joins applied (fun _ => false) s (s.joinRecords applied) ∨
      ((applied || !s.escalatedNow.isEmpty) = true ∧ Joins applied s.expiresNow s (s.joinRecords applied)) := by
  unfold State.joinRecords
  split
  next open' =>
    refine (s.joins_joinInOpenOrder applied).imp_right fun h => ⟨?_, h⟩
    have escalated : (List.finRange 32).any s.escalates = !s.escalatedNow.isEmpty := by
      rw [Bool.eq_iff_iff]
      simp [State.escalatedNow]
    rw [State.joinOrderOpen, escalated] at open'
    cases applied
    · simp only [Bool.false_and, Bool.false_or, Bool.and_eq_true] at open'
      exact open'.1
    · rfl
  next => exact .inl (s.joins_recordApplied applied)

end Sys2Proof.Machine
end

section
/-! PROOFS. The window end (section 1.1) block by block: its opening with the apply of a commit, then what the blocks that
record leave of it, in the terms of `WindowEnds`. -/

namespace Sys2Proof.Machine

/-! ## The apply of a commit, field by field -/

theorem State.applyStaged_eq (s : State) :
    s.applyStaged =
      let flushed := (s.hold.filter { s with active := s.staged }.applyFlushes).map HeldEntry.txn
      { s with
        active := s.staged
        hold := s.hold.filter fun e => !{ s with active := s.staged }.applyFlushes e
        out := (s.withRefusals flushed .denied).out
        restraints := Table.remap s.restraints fun r x => if (s.staged.requesters[r]).present then x else Restraint.clean
        accounts := Table.remap ({ s with active := s.staged }.withRefusals flushed .denied).accounts fun r a =>
          if (s.staged.requesters[r]).accounted then a else { a with balance := 0 }
        commit := { state := .idle, pause := false, outcome := .applied, outcomeWindow := s.timer.windowNumber }
        latched := s.latched.withCommitDone } := by
  rw [State.applyStaged, State.flush_eq _ _ _ (Or.inr rfl)]
  rfl

/-! ## The opening of a window end -/

section
variable (s : State) (cause : WindowEndCause)

/-- The entries that an apply at this window end flushes are those the opening finds (R61). -/
theorem State.flushedAt_of_applies {s : State} {cause : WindowEndCause} (applies : s.applies cause = true) (t : Timer) :
    { s with timer := t, active := s.staged }.applyFlushes = s.flushedAt cause := by
  funext e
  rw [State.flushedAt, applies]
  rfl

theorem State.flushedAt_of_not_applies {s : State} {cause : WindowEndCause} (applies : ¬ s.applies cause = true)
    (e : HeldEntry) : s.flushedAt cause e = false := by
  rw [State.flushedAt, Bool.eq_false_iff.2 applies, Bool.false_and]

theorem State.windowOpened_of_applies {s : State} {cause : WindowEndCause} (applies : s.applies cause = true) :
    s.windowOpened cause =
      { { s with timer := { counter := 0, elapsed := 0, windowNumber := s.timer.windowNumber + 1 } }.applyStaged with
        timer := { counter := (if cause = .sync then s.staged.global.syncPhase else 0), elapsed := 0
                   windowNumber := s.timer.windowNumber + 1 } } := by
  rw [State.windowOpened, if_pos applies, State.applyStaged_eq]
  cases cause <;> rfl

theorem State.windowOpened_of_not_applies {s : State} {cause : WindowEndCause} (applies : ¬ s.applies cause = true) :
    s.windowOpened cause =
      { s with timer := { counter := (if cause = .sync then s.active.global.syncPhase else 0), elapsed := 0
                          windowNumber := s.timer.windowNumber + 1 } } := by
  rw [State.windowOpened, if_neg applies]
  cases cause <;> rfl

theorem State.windowOpened_timer : (s.windowOpened cause).timer =
    { counter := if cause = .sync then (s.configAfter cause).global.syncPhase else 0, elapsed := 0
      windowNumber := s.timer.windowNumber + 1 } := by
  by_cases applies : s.applies cause = true
  · rw [State.windowOpened_of_applies applies, State.configAfter, if_pos applies]
  · rw [State.windowOpened_of_not_applies applies, State.configAfter, if_neg applies]

theorem State.windowOpened_hold :
    (s.windowOpened cause).hold = s.hold.filter fun e => !s.flushedAt cause e := by
  by_cases applies : s.applies cause = true
  · rw [State.windowOpened_of_applies applies, State.applyStaged_eq, ← State.flushedAt_of_applies applies]
  · simp [State.windowOpened_of_not_applies applies, State.flushedAt_of_not_applies applies]

theorem State.windowOpened_out : (s.windowOpened cause).out =
    { s.out with responses := s.out.responses ++ answersTo (s.hold.filter (s.flushedAt cause)) .denied } := by
  by_cases applies : s.applies cause = true
  · rw [State.windowOpened_of_applies applies, State.applyStaged_eq, State.withRefusals_out, List.map_map,
      ← State.flushedAt_of_applies applies]
    rfl
  · have none : s.hold.filter (s.flushedAt cause) = [] := by simp [State.flushedAt_of_not_applies applies]
    simp [State.windowOpened_of_not_applies applies, none, answersTo]

theorem State.windowOpened_restraint (r : RequesterId) :
    (s.windowOpened cause).restraint r = s.recordBefore cause r := by
  by_cases applies : s.applies cause = true
  · rw [State.windowOpened_of_applies applies, State.applyStaged_eq, State.recordBefore, applies, State.restraint,
      Table.remap_get]
    cases (s.staged.requesters[r]).present <;> rfl
  · rw [State.windowOpened_of_not_applies applies, State.recordBefore, Bool.eq_false_iff.2 applies]
    rfl

theorem State.windowOpened_commit : (s.windowOpened cause).commit =
    if s.applies cause then
      { state := .idle, pause := false, outcome := .applied, outcomeWindow := s.timer.windowNumber + 1 }
    else s.commit := by
  by_cases applies : s.applies cause = true
  · rw [State.windowOpened_of_applies applies, State.applyStaged_eq, if_pos applies]
  · rw [State.windowOpened_of_not_applies applies, if_neg applies]

theorem State.windowOpened_latched : (s.windowOpened cause).latched =
    { s.latched with commitDone := s.latched.commitDone || s.applies cause } := by
  by_cases applies : s.applies cause = true
  · simp [State.windowOpened_of_applies applies, State.applyStaged_eq, LatchedCauses.withCommitDone, applies]
  · simp [State.windowOpened_of_not_applies applies, applies]

theorem State.windowOpened_frame : s.windowOpened cause =
    { s with timer := (s.windowOpened cause).timer, active := (s.windowOpened cause).active
             accounts := (s.windowOpened cause).accounts, restraints := (s.windowOpened cause).restraints
             hold := (s.windowOpened cause).hold, commit := (s.windowOpened cause).commit
             latched := (s.windowOpened cause).latched, out := (s.windowOpened cause).out } := by
  by_cases applies : s.applies cause = true
  · rw [State.windowOpened_of_applies applies, State.applyStaged_eq]
  · rw [State.windowOpened_of_not_applies applies]

/-- The counts of refusals at the opening: the entries an apply flushes are counted DENIED (R17, R61). -/
theorem State.windowOpened_counts (r : RequesterId) :
    ((s.windowOpened cause).account r).retryCount = (s.account r).retryCount ∧
    ((s.windowOpened cause).account r).deniedCount =
      if ((s.configAfter cause).requesters[r]).present = true then
        (s.account r).deniedCount + BitVec.ofNat 16 (s.hold.countP fun e =>
          s.flushedAt cause e && decide (e.txn.requester = r))
      else (s.account r).deniedCount := by
  by_cases applies : s.applies cause = true
  · let ended : Timer := { counter := 0, elapsed := 0, windowNumber := s.timer.windowNumber + 1 }
    obtain ⟨refused, hr⟩ : ∃ x, x = ({ s with timer := ended, active := s.staged }.withRefusals
      ((s.hold.filter (s.flushedAt cause)).map HeldEntry.txn) .denied).account r := ⟨_, rfl⟩
    have account : (s.windowOpened cause).account r =
        if (s.staged.requesters[r]).accounted then refused else { refused with balance := 0 } := by
      rw [State.windowOpened_of_applies applies, State.applyStaged_eq, State.account, Table.remap_get, hr,
        ← State.flushedAt_of_applies applies ended]
      rfl
    have counts : ((s.windowOpened cause).account r).retryCount = refused.retryCount ∧
        ((s.windowOpened cause).account r).deniedCount = refused.deniedCount := by
      rw [account]
      split <;> exact ⟨rfl, rfl⟩
    have answered : refused = if (s.staged.requesters[r]).present = true then
        (s.account r).refused .denied (s.hold.countP fun e => s.flushedAt cause e && decide (e.txn.requester = r))
      else s.account r := by
      rw [hr, State.withRefusals_account, List.countP_map, List.countP_filter]
      simp only [Bool.and_comm, Function.comp]
      rfl
    rw [counts.1, counts.2, answered, State.configAfter, if_pos applies]
    split <;> exact ⟨rfl, rfl⟩
  · simp [State.windowOpened_of_not_applies applies, State.flushedAt_of_not_applies applies, State.account]

/-- An apply sets the balance of a requester it leaves out of account to 0 (R19). -/
theorem State.windowOpened_balance_of_not_accounted {r : RequesterId}
    (out : ((s.configAfter cause).requesters[r]).accounted = false) :
    ((s.windowOpened cause).account r).balance = if s.applies cause then 0 else (s.account r).balance := by
  by_cases applies : s.applies cause = true
  · rw [State.configAfter, if_pos applies] at out
    rw [State.windowOpened_of_applies applies, State.applyStaged_eq, State.account, Table.remap_get, out, if_pos applies]
    rfl
  · rw [State.windowOpened_of_not_applies applies, if_neg applies]
    rfl

end

/-! ## The state in which the blocks that record find the part -/

/-- The part at a window end when the refill, the rollover and the ageing are done. -/
def State.windowAged (s : State) (cause : WindowEndCause) : State := (s.windowOpened cause).refill.rollover.ageHold

theorem State.windowEnd_eq_joinRecords (s : State) (cause : WindowEndCause) :
    s.windowEnd cause = ((s.windowAged cause).joinRecords (s.applies cause)).startDrain := rfl

section
variable (s : State) (cause : WindowEndCause)

theorem State.windowAged_active : (s.windowAged cause).active = s.configAfter cause := s.windowOpened_active cause

theorem State.windowAged_restraint (r : RequesterId) : (s.windowAged cause).restraint r = s.recordBefore cause r :=
  s.windowOpened_restraint cause r

theorem State.windowAged_hold :
    (s.windowAged cause).hold = (s.hold.filter fun e => !s.flushedAt cause e).map HeldEntry.aged :=
  congrArg (List.map HeldEntry.aged) (s.windowOpened_hold cause)

theorem State.windowAged_evaluates (r : RequesterId) : (s.windowAged cause).evaluates r = s.evaluatedAt cause r := by
  rw [State.evaluates, State.regulating, State.entry, State.windowAged_active, State.windowAged_restraint]
  rfl

theorem Restraint.evaluated_strikes (x : Restraint) : x.evaluated.strikes = strikesAfter x := by
  unfold Restraint.evaluated strikesAfter
  split <;> rfl

theorem State.windowAged_escalates (r : RequesterId) : (s.windowAged cause).escalates r = s.escalatedAt cause r := by
  rw [State.escalates, State.windowAged_evaluates, State.entry, State.windowAged_active, State.windowAged_restraint,
    Restraint.evaluated_strikes]
  rfl

theorem State.windowAged_recordEvaluated (r : RequesterId) :
    (s.windowAged cause).recordEvaluated r = s.recordAfter cause r := by
  rw [State.recordEvaluated, State.windowAged_evaluates, State.windowAged_escalates, State.windowAged_restraint,
    State.recordAfter]
  by_cases evaluated : s.evaluatedAt cause r = true
  · simp only [evaluated, if_true, strikesAfter, Restraint.evaluated]
    cases (s.recordBefore cause r).curbHit <;> rfl
  · simp only [evaluated, Bool.false_eq_true, if_false]

theorem State.windowAged_escalatedNow :
    (s.windowAged cause).escalatedNow = (List.finRange 32).filter fun r => s.escalatedAt cause r :=
  List.filter_congr fun r _ => s.windowAged_escalates cause r

theorem answersTo_aged (es : List HeldEntry) (o : ResponseOutcome) :
    answersTo (es.map HeldEntry.aged) o = answersTo es o := by
  rw [answersTo, List.map_map]
  rfl

theorem State.windowAged_escalatedNowEntries :
    (s.windowAged cause).escalatedNowEntries = (s.escalatedEntries cause).map HeldEntry.aged := by
  rw [State.escalatedNowEntries, State.windowAged_escalatedNow, entriesOf, State.escalatedEntries, List.map_flatMap,
    State.windowAged_hold]
  refine List.flatMap_congr fun r _ => ?_
  rw [List.filter_map, List.filter_filter]
  simp only [Function.comp, Bool.and_comm]
  rfl

/-- An aged entry whose expiry joins before another block's record is one that reaches the limit, when no flush took it
(R50). -/
theorem State.windowAged_expiresNow (e : HeldEntry) :
    ((s.windowAged cause).expiresNow e.aged && !s.flushedAt cause e) = s.expiredAt cause e := by
  rw [State.expiresNow, State.windowAged_escalates, State.windowAged_active]
  simp only [State.expiredAt, HeldEntry.overAge, HeldEntry.aged]
  ac_rfl

theorem State.windowAged_filter_expiresNow :
    (s.windowAged cause).hold.filter (s.windowAged cause).expiresNow =
      (s.hold.filter fun e => s.expiredAt cause e).map HeldEntry.aged := by
  rw [State.windowAged_hold, List.filter_map, List.filter_filter]
  exact congrArg _ (List.filter_congr fun e _ => s.windowAged_expiresNow cause e)

theorem State.windowAged_account (r : RequesterId) :
    (s.windowAged cause).account r =
      { (s.windowOpened cause).refill.account r with
        beatsLast := ((s.windowOpened cause).refill.account r).beatsThis, beatsThis := 0 } :=
  State.rollover_account _ r

end

/-! ## The whole window end -/

theorem State.startDrain_eq (s : State) :
    s.startDrain = { s with commit := if s.commit.state = .armed .drained
      then { s.commit with state := .draining 0 s.active.global.drainLimit, pause := true } else s.commit } := by
  unfold State.startDrain
  split <;> rfl

/-- The counts of refusals when the blocks that record are still to come. -/
theorem State.windowAged_counts (s : State) (cause : WindowEndCause) (r : RequesterId) :
    ((s.windowAged cause).account r).retryCount = ((s.windowOpened cause).account r).retryCount ∧
    ((s.windowAged cause).account r).deniedCount = ((s.windowOpened cause).account r).deniedCount := by
  rw [State.windowAged_account, State.refill_account]
  split <;> exact ⟨rfl, rfl⟩

/-- The balance after a window end, for every requester (R13, R14, R19). -/
theorem State.windowEnd_balance_of_not_accounted (s : State) (cause : WindowEndCause) {r : RequesterId}
    (h : ((s.windowEnd cause).entry r).accounted = false) :
    ((s.windowEnd cause).account r).balance = if s.applies cause then 0 else (s.account r).balance := by
  rw [State.entry, State.windowEnd_active] at h
  rw [(s.windowEnd_keepsUsage cause).balance, State.rollover_account, State.refill_account, State.entry,
    State.windowOpened_active, h, if_neg Bool.false_ne_true, State.windowOpened_balance_of_not_accounted s cause h]

theorem countP_aged (es : List HeldEntry) (p : HeldEntry → Bool) (same : ∀ e, p e.aged = p e) :
    (es.map HeldEntry.aged).countP p = es.countP p := by
  rw [List.countP_map]
  exact List.countP_congr fun e _ => by simp [same]

/-- The entries of one requester that a window end refuses: those an apply flushes, and with its escalation the others. -/
theorem State.countP_denied_at (s : State) (cause : WindowEndCause) (r : RequesterId) :
    (s.hold.countP fun e => decide (e.txn.requester = r) && (s.flushedAt cause e || s.escalatedAt cause r)) =
      (s.hold.countP fun e => s.flushedAt cause e && decide (e.txn.requester = r)) +
        (s.windowAged cause).hold.countP fun e =>
          (s.windowAged cause).escalates e.txn.requester && decide (e.txn.requester = r) := by
  rw [State.windowAged_hold, countP_aged _ _ fun _ => rfl,
    List.countP_eq_countP_filter_add _ _ fun e => s.flushedAt cause e, List.countP_filter, List.countP_filter,
    List.countP_filter]
  refine congrArg₂ _ (List.countP_congr fun e _ => ?_) (List.countP_congr fun e _ => ?_)
  · cases s.flushedAt cause e <;> simp
  · rw [State.windowAged_escalates]
    by_cases own : e.txn.requester = r
    · subst own
      cases s.flushedAt cause e <;> simp
    · simp [own]

/-! ## What a window end keeps, whatever stands on the ports -/

section
variable (s : State) (cause : WindowEndCause)

theorem State.exists_joins (applied : Bool) : ∃ gone, Joins applied gone s (s.joinRecords applied) :=
  (s.joins_joinRecords applied).elim (fun joins => ⟨_, joins⟩) fun recorded => ⟨_, recorded.2⟩

theorem State.windowEnd_frame : s.windowEnd cause =
    { s with timer := (s.windowEnd cause).timer, active := (s.windowEnd cause).active
             accounts := (s.windowEnd cause).accounts, restraints := (s.windowEnd cause).restraints
             hold := (s.windowEnd cause).hold, commit := (s.windowEnd cause).commit, log := (s.windowEnd cause).log
             latched := (s.windowEnd cause).latched, out := (s.windowEnd cause).out
             openChoices := (s.windowEnd cause).openChoices } := by
  obtain ⟨gone, joins⟩ := (s.windowAged cause).exists_joins (s.applies cause)
  have frame := joins.frame
  rw [State.windowEnd_eq_joinRecords, State.startDrain_eq]
  generalize (s.windowAged cause).joinRecords (s.applies cause) = x at frame
  rw [frame, State.windowAged, State.windowOpened_frame]
  rfl

theorem State.windowEnd_timer : (s.windowEnd cause).timer =
    { counter := if cause = .sync then (s.configAfter cause).global.syncPhase else 0, elapsed := 0
      windowNumber := s.timer.windowNumber + 1 } := by
  obtain ⟨gone, joins⟩ := (s.windowAged cause).exists_joins (s.applies cause)
  have timer := congrArg (·.timer) joins.frame
  rw [State.windowEnd_eq_joinRecords, State.startDrain_eq]
  exact timer.trans (s.windowOpened_timer cause)

theorem State.windowEnd_restraint (r : RequesterId) : (s.windowEnd cause).restraint r = s.recordAfter cause r := by
  obtain ⟨gone, joins⟩ := (s.windowAged cause).exists_joins (s.applies cause)
  rw [State.windowEnd_eq_joinRecords, State.startDrain_eq]
  exact (joins.restraint r).trans (s.windowAged_recordEvaluated cause r)

theorem State.windowEnd_commit : (s.windowEnd cause).commit = s.commitAfter cause := by
  obtain ⟨gone, joins⟩ := (s.windowAged cause).exists_joins (s.applies cause)
  have frame := joins.frame
  rw [State.windowEnd_eq_joinRecords, State.startDrain_eq]
  generalize (s.windowAged cause).joinRecords (s.applies cause) = x at frame
  have active : x.active = s.configAfter cause := (congrArg (·.active) frame).trans (s.windowAged_active cause)
  have commit : x.commit = (s.windowOpened cause).commit := congrArg (·.commit) frame
  change (if x.commit.state = _ then _ else _) = _
  rw [commit, active, State.windowOpened_commit, State.commitAfter, State.configAfter]
  cases s.applies cause <;> simp

end

/-- What a window end leaves, from what the blocks that record leave of it. -/
theorem WindowEndsExpiring.of_joins {s : State} {cause : WindowEndCause} {gone : HeldEntry → Bool}
    {expired : List HeldEntry} (out : s.out = Outputs.none)
    (joins : Joins (s.applies cause) gone (s.windowAged cause) ((s.windowAged cause).joinRecords (s.applies cause)))
    (entries : (s.windowAged cause).hold.filter gone = expired.map HeldEntry.aged)
    (kept : ∀ e ∈ s.hold, s.flushedAt cause e = false → s.escalatedAt cause e.txn.requester = false →
      gone e.aged = !(expired.isEmpty || !s.expiredAt cause e)) :
    WindowEndsExpiring cause expired s (s.windowEnd cause) := by
  have final := (State.windowEnd_eq_joinRecords s cause).trans (State.startDrain_eq _)
  generalize (s.windowAged cause).joinRecords (s.applies cause) = x at joins final
  obtain ⟨-, -, hold, account, ⟨answers, answered, out'⟩, incidents, recorded, log, latched⟩ := joins
  have present (r : RequesterId) : ((s.windowAged cause).entry r).present = ((s.windowEnd cause).entry r).present := by
    rw [State.entry, State.windowAged_active, State.entry, State.windowEnd_active]
  have counts (r : RequesterId) : ((s.windowEnd cause).account r).retryCount = (x.account r).retryCount ∧
      ((s.windowEnd cause).account r).deniedCount = (x.account r).deniedCount := by rw [final]; exact ⟨rfl, rfl⟩
  refine ⟨s.windowEnd_frame cause, s.windowEnd_active cause, s.windowEnd_timer cause, fun r => ⟨?_,
    s.windowEnd_beatsLast cause r, s.windowEnd_beatsThis cause r, ?_, ?_, s.windowEnd_restraint cause r⟩, ?_,
    s.windowEnd_commit cause, ?_, ?_⟩
  · by_cases accounted : ((s.windowEnd cause).entry r).accounted = true
    · rw [if_pos accounted, s.windowEnd_balance cause accounted]
      rfl
    · rw [if_neg accounted, s.windowEnd_balance_of_not_accounted cause (Bool.eq_false_iff.2 accounted)]
  · rw [(counts r).1, account, present, entries, countP_aged _ _ fun _ => rfl]
    split
    · rw [(s.windowAged_counts cause r).1, (s.windowOpened_counts cause r).1]
    · rw [(s.windowAged_counts cause r).1, (s.windowOpened_counts cause r).1]
  · have refused : ((s.configAfter cause).requesters[r]).present = ((s.windowEnd cause).entry r).present := by
      rw [State.entry, State.windowEnd_active]
    have opened := (s.windowOpened_counts cause r).2
    rw [refused] at opened
    rw [(counts r).2, account, present, s.countP_denied_at cause r]
    split
    next here => simp only [(s.windowAged_counts cause r).2, opened, if_pos here, BitVec.ofNat_add, BitVec.add_assoc]
    next absent => rw [(s.windowAged_counts cause r).2, opened, if_neg absent]
  · rw [final]
    refine hold.trans ?_
    rw [State.windowAged_hold, List.filter_map, List.filter_filter]
    refine congrArg _ (List.filter_congr fun e he => ?_)
    have unexpired := kept e he
    rw [Function.comp, State.windowAged_escalates]
    change (!s.escalatedAt cause e.txn.requester && !gone e.aged && !s.flushedAt cause e) = _
    cases flushed : s.flushedAt cause e
    · cases escalated : s.escalatedAt cause e.txn.requester
      · rw [unexpired flushed escalated, Bool.not_not]
        simp
      · simp
    · simp
  · refine ⟨answers, ?_, ?_⟩
    · rwa [State.windowAged_escalatedNowEntries, answersTo_aged, entries, answersTo_aged] at answered
    · rw [final]
      refine out'.trans ?_
      have opened : (s.windowAged cause).out = (s.windowOpened cause).out := rfl
      rw [opened, State.windowOpened_out, out]
      rfl
  · refine ⟨incidents, ?_, ?_, ?_⟩
    · rw [State.windowAged_escalatedNow, entries, List.map_map] at recorded
      exact recorded
    · rw [final]
      refine log.trans ?_
      have opened : (s.windowAged cause).log = (s.windowOpened cause).log := rfl
      have number : (s.windowAged cause).timer = (s.windowOpened cause).timer := rfl
      rw [opened, number, State.windowOpened_timer, State.windowOpened_frame]
    · rw [final]
      refine latched.trans ?_
      have opened : (s.windowAged cause).log = (s.windowOpened cause).log := rfl
      have latch : (s.windowAged cause).latched = (s.windowOpened cause).latched := rfl
      rw [opened, latch, State.windowOpened_latched, State.windowAged_escalatedNow, State.windowOpened_frame,
        State.escalatedIncidents, List.isEmpty_map]

/-- A window end from a part with empty ports, whatever its cause. -/
theorem State.windowEnds (s : State) (cause : WindowEndCause) (out : s.out = Outputs.none) :
    WindowEnds cause s (s.windowEnd cause) := by
  refine (State.joins_joinRecords (s.windowAged cause) (s.applies cause)).imp (fun joins => ?_) fun ⟨recorded, joins⟩ => ⟨?_, ?_⟩
  · exact WindowEndsExpiring.of_joins out joins (by simp) fun e _ _ _ => rfl
  · rw [State.windowAged_escalatedNow] at recorded
    rwa [State.escalatedIncidents, List.isEmpty_map]
  · refine WindowEndsExpiring.of_joins out joins (s.windowAged_filter_expiresNow cause) fun e he flushed _ => ?_
    have expires := s.windowAged_expiresNow cause e
    rw [flushed, Bool.not_false, Bool.and_true] at expires
    rw [expires]
    cases reached : s.expiredAt cause e
    · simp
    · simpa using ⟨e, he, reached⟩

/-- The ports a command empties first are no part of what a window end does. -/
theorem WindowEnds.of_clearOut {s t : State} {cause : WindowEndCause} (h : WindowEnds cause s.clearOut t) :
    WindowEnds cause s t := h

/-! ## The obligations -/

/-- Settles O5: the step takes the window end that is due, from a part whose window end before is whole. -/
theorem windowEndByExpiryEndsTheWindow : Obligations.WindowEndByExpiryEndsTheWindow := by
  intro s closed reached
  have due : s.clearOut.windowEndDue = true := decide_eq_true reached
  have arm : exec .windowEndByExpiry s = .next s.beginDue.takeWindowEnd := rfl
  rw [arm, State.beginDue_of_closed closed, State.takeWindowEnd, if_pos due]
  exact ⟨_, rfl, WindowEnds.of_clearOut (s.clearOut.windowEnds .expiry rfl)⟩

/-- Settles O6: whether sync is enabled, then whether the elapsed count is at the guard. -/
theorem syncActsByItsThreeCases : Obligations.SyncActsByItsThreeCases := by
  intro s settled
  have arm : exec .sync s = .next s.begin.syncArrival := rfl
  rw [arm, State.begin_of_settled settled, State.syncArrival, State.clearOut_active, State.clearOut_timer]
  refine ⟨fun disabled => ?_, fun enabled late => ?_, fun enabled early => ?_⟩
  · rw [if_neg (Bool.eq_false_iff.1 disabled)]
  · rw [if_pos enabled, if_pos late]
    exact ⟨_, rfl, WindowEnds.of_clearOut (s.clearOut.windowEnds .sync rfl)⟩
  · rw [if_pos enabled, if_neg (Nat.not_le.2 early), State.record_eq]

/-- Settles O10: what was spent is at most the bound less a balance that is no lower than -15. -/
theorem windowTrafficIsBounded : Obligations.WindowTrafficIsBounded := by
  intro s cause r balanceLaw spendLaw mode present regulated
  have accounted : (s.entry r).accounted = true := by rw [RequesterEntry.accounted, present, regulated, Bool.and_self]
  have debt := balanceLaw r
  rw [if_pos accounted] at debt
  have spent := spendLaw (decide_eq_true mode) r accounted
  rw [State.windowEnd_beatsLast]
  omega

/-- Settles O12: a DRAINING commit with nothing in flight is applied by a window end of its own. -/
theorem drainedCommitIsApplied : Obligations.DrainedCommitIsApplied := by
  intro s ticks limit closed draining empty noneIssued
  have issued (i : SlotId) : (s.slot i).isIssued = false := by
    cases h : s.slot i with
    | issued q => exact absurd h (noneIssued i q)
    | free => rfl
    | doneWaiting q => rfl
    | abandoned q => rfl
  have drained : s.clearOut.drained = true := (State.drained_iff _).2 ⟨empty, issued⟩
  have waiting : s.clearOut.commit.state.isDraining = true := by rw [State.clearOut_commit, draining]; rfl
  have arm : exec .drainedCommitApply s = .next s.beginRace.takeApply := rfl
  rw [arm, State.beginRace_of_closed closed, State.takeApply, waiting, drained, Bool.and_self, if_pos rfl]
  exact ⟨_, rfl, WindowEnds.of_clearOut (s.clearOut.windowEnds .commit rfl)⟩

end Sys2Proof.Machine
end

section
/-! PROOFS. Issue (chapter 6): which FREE slots a head takes, and what its pieces leave. -/

namespace Sys2Proof.Machine

/-! ## The lowest slots that satisfy a test -/

/-- The first number from `k` on that satisfies a test heads the list of those that do. -/
theorem filter_drop_finRange {n k : Nat} {p : Fin n → Bool} {i : Fin n} (from' : k ≤ i.val) (hit : p i = true)
    (first : ∀ j : Fin n, k ≤ j.val → j < i → p j = false) :
    ((List.finRange n).drop k).filter p = i :: ((List.finRange n).drop (i.val + 1)).filter p := by
  obtain ⟨d, distance⟩ := Nat.exists_eq_add_of_le from'
  induction d generalizing k with
  | zero =>
    have next : (List.finRange n).drop k = i :: (List.finRange n).drop (k + 1) := by
      rw [List.drop_eq_getElem_cons (by simp; omega)]
      simp [Fin.ext_iff, distance]
    rw [next, List.filter_cons, if_pos hit, distance, Nat.add_zero]
  | succ d ih =>
    have below : k < n := by omega
    have next : (List.finRange n).drop k = ⟨k, below⟩ :: (List.finRange n).drop (k + 1) := by
      rw [List.drop_eq_getElem_cons (by simpa using below)]
      simp
    have miss : p ⟨k, below⟩ = false := first _ le_rfl (Fin.lt_def.2 (by simp; omega))
    rw [next, List.filter_cons, miss, if_neg Bool.false_ne_true]
    exact ih (by omega) (fun j hj => first j (by omega)) (by omega)

theorem Slot.isFree_iff (x : Slot) : x.isFree = true ↔ x = .free := by
  cases x <;> simp [Slot.isFree]

theorem State.freeList_eq_nil {s : State} (none : ∀ j : SlotId, s.slot j ≠ .free) : s.freeList = [] :=
  List.filter_eq_nil_iff.2 fun j _ => by simp [Slot.isFree_iff, none j]

/-- The lowest FREE slot heads the list. -/
theorem State.freeList_eq_cons {s : State} {i : SlotId} (free : s.slot i = .free)
    (lowest : ∀ j : SlotId, j < i → s.slot j ≠ .free) :
    s.freeList = i :: ((List.finRange 16).drop (i.val + 1)).filter fun j => (s.slot j).isFree :=
  filter_drop_finRange (k := 0) (p := fun j => (s.slot j).isFree) (Nat.zero_le _) ((Slot.isFree_iff _).2 free)
    fun j _ below => Bool.eq_false_iff.2 (mt (Slot.isFree_iff _).1 (lowest j below))

/-- The two lowest FREE slots head the list. -/
theorem State.freeList_eq_cons_cons {s : State} {i j : SlotId} (freeI : s.slot i = .free)
    (lowest : ∀ k : SlotId, k < i → s.slot k ≠ .free) (order : i < j) (freeJ : s.slot j = .free)
    (next : ∀ k : SlotId, i < k → k < j → s.slot k ≠ .free) : ∃ rest, s.freeList = i :: j :: rest := by
  have second := filter_drop_finRange (p := fun k => (s.slot k).isFree) order ((Slot.isFree_iff _).2 freeJ)
    fun k above below => Bool.eq_false_iff.2 (mt (Slot.isFree_iff _).1 (next k above below))
  exact ⟨_, (State.freeList_eq_cons freeI lowest).trans (congrArg _ second)⟩

theorem State.mem_freeList (s : State) (i : SlotId) : i ∈ s.freeList ↔ s.slot i = .free := by
  simp [State.freeList, State.slotsWhere, Slot.isFree_iff]

/-- Two slots at the head of the list are two FREE slots. -/
theorem State.free_of_freeList {s : State} {i j : SlotId} {rest : List SlotId} (h : s.freeList = i :: j :: rest) :
    s.slot i = .free ∧ s.slot j = .free ∧ i ≠ j := by
  have nodup : s.freeList.Nodup := List.Nodup.filter _ (List.nodup_finRange 16)
  rw [h] at nodup
  refine ⟨(s.mem_freeList i).1 (by simp [h]), (s.mem_freeList j).1 (by simp [h]), fun same => ?_⟩
  exact (List.nodup_cons.1 nodup).1 (by simp [same])

/-! ## The issue of a head -/

theorem State.issueHead_of_whole {s : State} {x : Transaction} {rest : List Transaction} (head : s.issueQueue = x :: rest)
    (unsplit : crosses x = false) :
    s.issueHead = match s.freeList with
      | i :: _ => { s with issueQueue := rest }.send x (wholePiece x) i none
      | [] => s := by
  simp only [State.issueHead, head, unsplit]
  rfl

theorem State.issueHead_of_split {s : State} {x : Transaction} {rest : List Transaction} (head : s.issueQueue = x :: rest)
    (split : crosses x = true) :
    s.issueHead = match s.freeList with
      | i :: j :: _ =>
        ({ s with issueQueue := rest }.send x (firstPiece x) i (some j)).send x (secondPiece x) j (some i)
      | _ => s := by
  simp only [State.issueHead, head, split]
  rfl

theorem exec_issue_of_settled {s : State} (settled : s.settled = true) :
    exec .issue s = .next s.clearOut.issueHead := by
  have arm : exec .issue s = .next s.begin.issueHead := rfl
  rw [arm, State.begin_of_settled settled]

/-! ## The obligations -/

/-- Settles O25: an unsplit head takes the head of the list of FREE slots. -/
theorem wholeHeadIssuesIntoLowestFreeSlot : Obligations.WholeHeadIssuesIntoLowestFreeSlot := by
  intro s x rest settled head inside
  have unsplit : crosses x = false := Bool.eq_false_iff.2 fun split => absurd ((crosses_iff x).1 split) (Nat.not_lt.2 inside)
  rw [exec_issue_of_settled settled, State.issueHead_of_whole (s := s.clearOut) head unsplit]
  refine ⟨fun i free lowest => ?_, fun none => ?_⟩
  · rw [State.freeList_eq_cons (s := s.clearOut) free lowest]
    rfl
  · rw [State.freeList_eq_nil (s := s.clearOut) none]

/-- Settles O26: a split head takes the first two of the list of FREE slots, and waits when the list is shorter. -/
theorem splitHeadIssuesAsPair : Obligations.SplitHeadIssuesAsPair := by
  intro s x rest settled head beyond boundary n
  have split : crosses x = true := (crosses_iff x).2 beyond
  rw [exec_issue_of_settled settled, State.issueHead_of_split (s := s.clearOut) head split]
  refine ⟨fun i j freeI lowest order freeJ next => ?_, fun alone => ?_⟩
  · obtain ⟨later, list⟩ := State.freeList_eq_cons_cons (s := s.clearOut) freeI lowest order freeJ next
    rw [list]
    rfl
  · cases list : s.clearOut.freeList with
    | nil => rfl
    | cons i later =>
      cases later with
      | nil => rfl
      | cons j later =>
        obtain ⟨freeI, freeJ, apart⟩ := State.free_of_freeList list
        exact absurd (alone i j freeI freeJ) apart

end Sys2Proof.Machine
end

section
/-! PROOFS. Completions (section 7.2): which records name which slots under the law of the outstanding table, and what each
end of a piece leaves. -/

namespace Sys2Proof.Machine

/-! ## Who names whom -/

/-- The slots alone carry the law. -/
theorem PairLaw.of_slots {s t : State} (law : PairLaw s) (slots : t.slots = s.slots) : PairLaw t := by
  have same (i : SlotId) : t.slot i = s.slot i := by rw [State.slot, slots, State.slot]
  intro i r
  simp only [same]
  exact law i r

section
variable {s : State} (law : PairLaw s)
include law

/-- A slot that is named names back. -/
theorem PairLaw.named {i j : SlotId} {q : SlotRecord} (record : (s.slot j).record? = some q) (names : q.partner = some i) :
    ∃ r, (s.slot i).record? = some r ∧ r.partner = some j ∧ r.role ≠ .whole := by
  obtain ⟨-, partner, -⟩ := law j q record
  obtain ⟨r, named, back, -, -, -, roles⟩ := partner i names
  refine ⟨r, named, back, ?_⟩
  rcases roles with ⟨-, role⟩ | ⟨-, role⟩ <;> simp [role]

theorem PairLaw.partner_ne {i p : SlotId} {r : SlotRecord} (record : (s.slot i).record? = some r)
    (names : r.partner = some p) : p ≠ i := by
  rintro rfl
  obtain ⟨-, partner, -⟩ := law p r record
  obtain ⟨q, named, -, -, -, -, roles⟩ := partner p names
  rw [record] at named
  cases named
  rcases roles with ⟨first, second⟩ | ⟨second, first⟩ <;> simp [first] at second

/-- A slot that names no partner is named by none. -/
theorem PairLaw.not_named {i j : SlotId} {r q : SlotRecord} (own : (s.slot i).record? = some r)
    (alone : r.partner = none) (record : (s.slot j).record? = some q) : q.partner ≠ some i := fun names => by
  obtain ⟨r', named, back, -⟩ := law.named record names
  rw [own] at named
  cases named
  rw [alone] at back
  cases back

/-- Only its partner names a slot. -/
theorem PairLaw.named_only {i j p : SlotId} {r q : SlotRecord} (own : (s.slot i).record? = some r)
    (partner : r.partner = some p) (record : (s.slot j).record? = some q) (other : j ≠ p) : q.partner ≠ some i :=
  fun names => by
    obtain ⟨r', named, back, -⟩ := law.named record names
    rw [own] at named
    cases named
    rw [partner] at back
    exact other (Option.some.inj back).symm

end

/-! ## Slots going FREE that no other record names -/

/-- A record that names none of the slots that go FREE forgets nothing. -/
theorem SlotRecord.forget_of_not_named {r : SlotRecord} {freed : SlotId → Bool}
    (h : ∀ p, r.partner = some p → freed p = false) : r.forget freed = r := by
  unfold SlotRecord.forget
  split
  · rfl
  next p partner => rw [h p partner, if_neg Bool.false_ne_true]

theorem Slot.forget_of_not_named {x : Slot} {freed : SlotId → Bool}
    (h : ∀ r, x.record? = some r → ∀ p, r.partner = some p → freed p = false) : x.forget freed = x := by
  cases x with
  | free => rfl
  | issued r => exact congrArg Slot.issued (SlotRecord.forget_of_not_named (h r rfl))
  | doneWaiting r => exact congrArg Slot.doneWaiting (SlotRecord.forget_of_not_named (h r rfl))
  | abandoned r => exact congrArg Slot.abandoned (SlotRecord.forget_of_not_named (h r rfl))

/-- One slot that no other record names goes FREE: only it is written. -/
theorem State.freeSlot_of_not_named {s : State} {i : SlotId}
    (h : ∀ (j : SlotId) (q : SlotRecord), j ≠ i → (s.slot j).record? = some q → q.partner ≠ some i) :
    s.freeSlot i = s.setSlot i .free := by
  have slots : (s.freeSlot i).slots = (s.setSlot i .free).slots := by
    apply Table.ext_get
    intro j
    change (s.freeSlot i).slot j = (s.setSlot i .free).slot j
    rw [State.freeSlot_slot, State.setSlot_slot]
    split
    · rfl
    next other =>
      refine Slot.forget_of_not_named fun q record p names => decide_eq_false fun same => ?_
      exact h j q other record (same ▸ names)
  change { s with slots := (s.freeSlot i).slots } = _
  rw [slots]
  rfl

/-- Two slots of one transaction go FREE: only they are written. -/
theorem State.freeSlots_pair {s : State} (law : PairLaw s) {i p : SlotId} {r q : SlotRecord}
    (own : (s.slot i).record? = some r) (partner : r.partner = some p) (other : (s.slot p).record? = some q)
    (back : q.partner = some i) :
    (s.freeSlots fun j => decide (j = i) || decide (j = p)) = (s.setSlot i .free).setSlot p .free := by
  have slots : (s.freeSlots fun j => decide (j = i) || decide (j = p)).slots =
      ((s.setSlot i .free).setSlot p .free).slots := by
    apply Table.ext_get
    intro j
    change (s.freeSlots _).slot j = ((s.setSlot i .free).setSlot p .free).slot j
    rw [State.freeSlots_slot, State.setSlot_slot, State.setSlot_slot]
    by_cases isP : j = p
    · simp [isP]
    · by_cases isI : j = i
      · simp [isI]
      · rw [if_neg isP, if_neg isI, if_neg (by simp [isI, isP])]
        refine Slot.forget_of_not_named fun x record k names => ?_
        simp only [Bool.or_eq_false_iff, decide_eq_false_iff_not]
        refine ⟨fun same => ?_, fun same => ?_⟩
        · exact law.named_only own partner record isP (same ▸ names)
        · exact law.named_only other back record isI (same ▸ names)
  change { s with slots := (s.freeSlots _).slots } = _
  rw [slots]
  rfl

/-! ## The ends of a piece -/

section
variable {s : State} {i : SlotId} {r : SlotRecord}

theorem State.endPiece_of_whole (role : r.role = .whole) : s.endPiece i r = s.endWhole i r := by
  simp only [State.endPiece, role]

theorem State.endPiece_of_alone (role : r.role ≠ .whole) (partner : r.partner = none) :
    s.endPiece i r = (s.fault r).freeSlot i := by
  cases h : r.role <;> simp_all [State.endPiece]

theorem State.endPiece_of_issued {p : SlotId} {q : SlotRecord} (role : r.role ≠ .whole) (partner : r.partner = some p)
    (slot : s.slot p = .issued q) : s.endPiece i r = s.setSlot i (.doneWaiting r) := by
  cases h : r.role <;> simp_all [State.endPiece]

theorem State.endPiece_of_doneWaiting {p : SlotId} {q : SlotRecord} (role : r.role ≠ .whole)
    (partner : r.partner = some p) (slot : s.slot p = .doneWaiting q) : s.endPiece i r = s.endPair i p r q := by
  cases h : r.role <;> simp_all [State.endPiece]

theorem State.endPiece_of_abandoned {p : SlotId} {q : SlotRecord} (role : r.role ≠ .whole)
    (partner : r.partner = some p) (slot : s.slot p = .abandoned q) : s.endPiece i r = (s.fault r).freeSlot i := by
  cases h : r.role <;> simp_all [State.endPiece]

end

/-- A completion of an ISSUED slot: its error is recorded, then its piece ends (R121, R125). -/
theorem State.complete_of_issued {s : State} {i : SlotId} {q : SlotRecord} (h : s.slot i = .issued q)
    (o : CompletionOutcome) (data : List Beat) :
    s.complete i o data = (s.recordError i q o).endPiece i (q.completed o data) := by
  simp only [State.complete, h]

/-- A completed record keeps what ties it to its partner. -/
theorem SlotRecord.completed_same (q : SlotRecord) (o : CompletionOutcome) (data : List Beat) :
    (q.completed o data).requester = q.requester ∧ (q.completed o data).tag = q.tag ∧
      (q.completed o data).kind = q.kind ∧ (q.completed o data).role = q.role ∧
      (q.completed o data).partner = q.partner := by
  cases o
  · cases h : q.kind <;> simp [SlotRecord.completed, h]
  · simp [SlotRecord.completed]

/-- The FAULT of a completed piece names its transaction. -/
theorem State.fault_completed (s : State) (q : SlotRecord) (o : CompletionOutcome) (data : List Beat) :
    s.fault (q.completed o data) = s.fault q := by
  obtain ⟨requester, tag, -⟩ := q.completed_same o data
  rw [State.fault, requester, tag, State.fault]

/-- The error of a completion reaches the log alone. -/
theorem State.recordError_eq (s : State) (i : SlotId) (q : SlotRecord) (o : CompletionOutcome) :
    s.recordError i q o = s.withIncidents (match o with
      | .ok => []
      | .error => [.memoryError q.requester q.tag i q.address]) := by
  cases o
  · exact s.withIncidents_nil.symm
  · exact s.record_eq _

/-! ## What the ends leave under the law -/

theorem SlotRecord.completed_read {q : SlotRecord} (kind : q.kind = .read) (data : List Beat) :
    q.completed .ok data = { q with outcome := .ok, readData := some (takenData q.length data) } := by
  simp only [SlotRecord.completed, kind]

theorem SlotRecord.completed_write {q : SlotRecord} (kind : q.kind = .write) (data : List Beat) :
    q.completed .ok data = { q with outcome := .ok, readData := none } := by
  simp only [SlotRecord.completed, kind]

section
variable {s : State} (law : PairLaw s) {i : SlotId} {q : SlotRecord} (own : s.slot i = .issued q)
include law own

/-- A completed WHOLE piece: its answer, and its slot FREE. -/
theorem State.complete_whole (role : q.role = .whole) (o : CompletionOutcome) (data : List Beat) :
    s.complete i o data =
      let r := q.completed o data
      (if r.outcome = .ok then (s.recordError i q o).done r r.beats else (s.recordError i q o).fault r).setSlot i
        .free := by
  obtain ⟨-, -, -, sameRole, -⟩ := q.completed_same o data
  obtain ⟨alone, -, -⟩ := law i q (by rw [own]; rfl)
  have quiet (u : State) (slots : u.slots = s.slots) : u.freeSlot i = u.setSlot i .free := by
    have same (j : SlotId) : u.slot j = s.slot j := by rw [State.slot, slots, State.slot]
    refine State.freeSlot_of_not_named fun j x _ record => ?_
    rw [same] at record
    exact law.not_named (by rw [own]; rfl) (alone role) record
  rw [State.complete_of_issued own, State.endPiece_of_whole (sameRole.trans role), State.endWhole, quiet]
  rw [State.recordError_eq]
  split <;> rfl

omit law in
/-- A completed piece whose partner is ISSUED waits for it. -/
theorem State.complete_waiting (role : q.role ≠ .whole) {p : SlotId} {w : SlotRecord} (partner : q.partner = some p)
    (other : s.slot p = .issued w) (o : CompletionOutcome) (data : List Beat) :
    s.complete i o data = (s.recordError i q o).setSlot i (.doneWaiting (q.completed o data)) := by
  obtain ⟨-, -, -, sameRole, samePartner⟩ := q.completed_same o data
  rw [State.complete_of_issued own, State.recordError_eq]
  exact State.endPiece_of_issued (sameRole ▸ role) (samePartner.trans partner) other

/-- A completed piece whose partner is ABANDONED: FAULT, its slot FREE, and its partner alone. -/
theorem State.complete_beside_abandoned (role : q.role ≠ .whole) {p : SlotId} {w : SlotRecord}
    (partner : q.partner = some p) (other : s.slot p = .abandoned w) (o : CompletionOutcome) (data : List Beat) :
    s.complete i o data =
      (((s.recordError i q o).fault q).setSlot p (.abandoned { w with partner := none })).setSlot i .free := by
  obtain ⟨-, -, -, sameRole, samePartner⟩ := q.completed_same o data
  have record : (s.slot i).record? = some q := by rw [own]; rfl
  have apart := law.partner_ne record partner
  obtain ⟨-, named, -⟩ := law i q record
  obtain ⟨w', recordW, back, -⟩ := named p partner
  rw [other] at recordW
  cases recordW
  rw [State.complete_of_issued own, State.recordError_eq, State.endPiece_of_abandoned (s := s.withIncidents _) (sameRole ▸ role)
    (samePartner.trans partner) other, State.fault_completed]
  generalize hu : (s.withIncidents _).fault q = u
  have same (j : SlotId) : u.slot j = s.slot j := by rw [← hu]; rfl
  have slots : (u.freeSlot i).slots = ((u.setSlot p (.abandoned { w with partner := none })).setSlot i .free).slots := by
    apply Table.ext_get
    intro j
    change (u.freeSlot i).slot j = ((u.setSlot p _).setSlot i .free).slot j
    rw [State.freeSlot_slot, State.setSlot_slot, State.setSlot_slot]
    split
    · rfl
    · split
      next isP =>
        rw [same, isP, other, Slot.forget, w.forget_single i, if_pos back]
      next notI notP =>
        rw [same]
        refine Slot.forget_of_not_named fun x recordX k names => decide_eq_false fun sameI => ?_
        exact law.named_only record partner recordX notP (sameI ▸ names)
  change { u with slots := (u.freeSlot i).slots } = _
  rw [slots]
  rfl

/-- A completed piece with no partner any more: FAULT and its slot FREE. -/
theorem State.complete_alone (role : q.role ≠ .whole) (partner : q.partner = none) (o : CompletionOutcome)
    (data : List Beat) : s.complete i o data = ((s.recordError i q o).fault q).setSlot i .free := by
  obtain ⟨-, -, -, sameRole, samePartner⟩ := q.completed_same o data
  rw [State.complete_of_issued own, State.recordError_eq, State.endPiece_of_alone (s := s.withIncidents _) (sameRole ▸ role)
    (samePartner.trans partner), State.fault_completed]
  exact State.freeSlot_of_not_named (s := (s.withIncidents _).fault q) fun j x _ record =>
    law.not_named (by rw [own]; rfl) partner record

/-- The later completion of a pair: its one answer, and both slots FREE. -/
theorem State.complete_pair (role : q.role ≠ .whole) {p : SlotId} {w : SlotRecord} (partner : q.partner = some p)
    (other : s.slot p = .doneWaiting w) (o : CompletionOutcome) (data : List Beat) :
    s.complete i o data =
      let r := q.completed o data
      ((if r.outcome = .ok ∧ w.outcome = .ok then (s.recordError i q o).done r (pairData r w)
        else (s.recordError i q o).fault r).setSlot i .free).setSlot p .free := by
  obtain ⟨-, -, -, sameRole, samePartner⟩ := q.completed_same o data
  have record : (s.slot i).record? = some q := by rw [own]; rfl
  obtain ⟨-, named, -⟩ := law i q record
  obtain ⟨w', recordW, back, -⟩ := named p partner
  have recordP := recordW
  rw [other] at recordW
  cases recordW
  have quiet (u : State) (slots : u.slots = s.slots) :
      (u.freeSlots fun j => decide (j = i) || decide (j = p)) = (u.setSlot i .free).setSlot p .free := by
    have same (j : SlotId) : u.slot j = s.slot j := by rw [State.slot, slots, State.slot]
    exact State.freeSlots_pair (law.of_slots slots) (by rw [same]; exact record) partner (by rw [same]; exact recordP) back
  rw [State.complete_of_issued own, State.recordError_eq, State.endPiece_of_doneWaiting (s := s.withIncidents _) (sameRole ▸ role)
    (samePartner.trans partner) other, State.endPair, quiet]
  split <;> rfl

end

/-! ## The obligations -/

/-- Settles O28: a WHOLE piece names no slot and none names it, so its slot alone is written. -/
theorem wholeCompletionGivesTheResponse : Obligations.WholeCompletionGivesTheResponse := by
  intro s i q data settled law own role
  have ends := State.complete_whole (s := s.clearOut) law own role
  simp only [exec_completion_of_settled settled, ends]
  refine ⟨fun kind => ?_, fun kind => ?_, ?_⟩
  · rw [SlotRecord.completed_read kind, if_pos rfl, State.done]
    simp only [kind]
    rfl
  · rw [SlotRecord.completed_write kind, if_pos rfl, State.done]
    simp only [kind]
    rfl
  · rw [State.recordError_eq]
    rfl

/-- Settles O29: the partner's state decides between waiting and FAULT; an ERROR is recorded first and keeps no data. -/
theorem splitCompletionWaitsOrFaults : Obligations.SplitCompletionWaitsOrFaults := by
  intro s i q o data settled law own role recorded faulted
  have error : s.clearOut.recordError i q o = recorded := by
    cases o
    · exact State.recordError_eq _ _ _ _ |>.trans (State.withIncidents_nil _)
    · exact State.recordError_eq _ _ _ _
  have out : recorded.out = Outputs.none := by cases o <;> rfl
  have slots : recorded.slots = s.slots := by cases o <;> rfl
  have answer : (recorded.fault q).out = faulted := by rw [State.fault, State.respond, out]; rfl
  rw [exec_completion_of_settled settled]
  refine ⟨fun p w partner other => ?_, fun p w partner other => ?_, fun partner => ?_⟩
  · rw [State.complete_waiting (s := s.clearOut) own role partner other, error]
    cases o
    · cases kind : q.kind
      · rw [SlotRecord.completed_read kind, kind]
        rfl
      · rw [SlotRecord.completed_write kind, kind]
        rfl
    · rfl
  · rw [State.complete_beside_abandoned (s := s.clearOut) law own role partner other, error, ← answer]
    cases o <;> rfl
  · rw [State.complete_alone (s := s.clearOut) law own role partner, error, ← answer]
    cases o <;> rfl

/-- Settles O30: both slots go FREE with the one answer, whose data is in address order by the pieces' roles. -/
theorem pairCompletionAssemblesTheResponse : Obligations.PairCompletionAssemblesTheResponse := by
  intro s i p q w data settled law own role partner other freed mine theirs
  have ends := State.complete_pair (s := s.clearOut) law own role partner other
  simp only [exec_completion_of_settled settled, ends]
  refine ⟨fun ok kind => ?_, fun ok kind => ?_, fun failed => ?_, ?_⟩
  · rw [SlotRecord.completed_read kind, if_pos ⟨rfl, ok⟩, State.done]
    cases h : q.role
    · exact absurd h role
    · simp only [pairData, kind]
      rfl
    · simp only [pairData, kind]
      rfl
  · rw [SlotRecord.completed_write kind, if_pos ⟨rfl, ok⟩, State.done]
    simp only [kind]
    rfl
  · rw [if_neg fun both => failed both.2, State.fault_completed]
    rfl
  · rw [State.recordError_eq, State.fault_completed]
    rfl

/-! ## RECOVER_DOWNSTREAM (section 7.5) -/

/-- When slots go FREE, a record loses its reference exactly when it named one of them (R126). -/
theorem SlotRecord.forget_eq (r : SlotRecord) (freed : SlotId → Bool) :
    r.forget freed = { r with partner := if (r.partner.map freed).getD false then none else r.partner } := by
  obtain ⟨requester, tag, kind, address, length, role, partner, ticks, outcome, data⟩ := r
  cases partner with
  | none => rfl
  | some p => cases h : freed p <;> simp [SlotRecord.forget, h]

theorem State.slotCount_eq (s : State) (p : Slot → Bool) :
    s.slotCount p = (List.finRange 16).countP fun i => p (s.slot i) := List.countP_eq_length_filter.symm

/-- Settles O43: the ABANDONED slots go FREE in one event, and what the answer counts is what went FREE. -/
theorem recoverDownstreamFreesAbandonedSlots : Obligations.RecoverDownstreamFreesAbandonedSlots := by
  intro s seq ready count
  have arm : exec (.recoverDownstream seq) s =
      .next (s.run seq codeRecoverDownstream 0 actRecoverDownstream) := rfl
  refine ⟨_, (arm.trans (congrArg _ (State.run_of_result ready seq codeRecoverDownstream 0 rfl rfl))), ?_, fun i => ?_⟩
  · rw [actRecoverDownstream, State.slotCount_eq, beBytes_one]
    rfl
  · change (s.clearOut.freeSlots fun i => (s.clearOut.slot i).isAbandoned).slot i = _
    rw [State.freeSlots_slot]
    change (if (s.slot i).isAbandoned then Slot.free else (s.slot i).forget _) = _
    cases s.slot i with
    | free => rfl
    | abandoned q => rfl
    | issued q => exact congrArg Slot.issued (q.forget_eq _)
    | doneWaiting q => exact congrArg Slot.doneWaiting (q.forget_eq _)

end Sys2Proof.Machine
end

section
/-! PROOFS. Slots going ABANDONED (sections 7.3 and 7.6): one slot at a time in ascending order, in the terms of `Abandons`
and of the FAULT responses that follow. -/

namespace Sys2Proof.Machine

/-! ## One slot -/

section
variable {s : State} {i : SlotId} {r : SlotRecord}

/-- A piece with no partner takes its transaction with it. -/
theorem State.abandonSlot_of_alone (partner : r.partner = none) :
    s.abandonSlot i r = (s.setSlot i (.abandoned r.timedOut)).fault r := by
  cases h : r.role <;> simp_all [State.abandonSlot]

theorem State.abandonSlot_of_issued {p : SlotId} {q : SlotRecord} (role : r.role ≠ .whole) (partner : r.partner = some p)
    (apart : p ≠ i) (slot : s.slot p = .issued q) : s.abandonSlot i r = s.setSlot i (.abandoned r.timedOut) := by
  cases h : r.role <;> simp_all [State.abandonSlot, State.setSlot_slot]

theorem State.abandonSlot_of_abandoned {p : SlotId} {q : SlotRecord} (role : r.role ≠ .whole)
    (partner : r.partner = some p) (apart : p ≠ i) (slot : s.slot p = .abandoned q) :
    s.abandonSlot i r = (s.setSlot i (.abandoned r.timedOut)).fault r := by
  cases h : r.role <;> simp_all [State.abandonSlot, State.setSlot_slot]

theorem State.abandonSlot_of_doneWaiting {p : SlotId} {q : SlotRecord} (role : r.role ≠ .whole)
    (partner : r.partner = some p) (apart : p ≠ i) (slot : s.slot p = .doneWaiting q) :
    s.abandonSlot i r = ((s.setSlot i (.abandoned r.timedOut)).fault r).freeSlot p := by
  cases h : r.role <;> simp_all [State.abandonSlot, State.setSlot_slot]

/-- Whatever the partner, only the slots and the responses change. -/
theorem State.abandonSlot_frame (s : State) (i : SlotId) (r : SlotRecord) :
    s.abandonSlot i r = { s with slots := (s.abandonSlot i r).slots, out := (s.abandonSlot i r).out } := by
  unfold State.abandonSlot
  cases r.role <;> cases r.partner <;> try rfl
  all_goals
    next p => cases h : (s.setSlot i (.abandoned r.timedOut)).slot p <;> simp only [h] <;> rfl

end

/-! ## The slots abandoned so far -/

section
variable {s t : State} {named : SlotId → Bool} (h : Abandons s t named) {i : SlotId}
include h

theorem Abandons.of_free (slot : s.slot i = .free) : t.slot i = .free := by
  have := h i
  rwa [slot] at this

theorem Abandons.of_abandoned {r : SlotRecord} (slot : s.slot i = .abandoned r) : t.slot i = .abandoned r := by
  have := h i
  rwa [slot] at this

theorem Abandons.of_doneWaiting {r : SlotRecord} (slot : s.slot i = .doneWaiting r) :
    t.slot i = if (r.partner.map named).getD false then .free else .doneWaiting r := by
  have := h i
  rwa [slot] at this

theorem Abandons.of_issued {r : SlotRecord} (slot : s.slot i = .issued r) (kept : named i = false) :
    t.slot i = .issued r := by
  have := h i
  simpa only [slot, kept, Bool.false_eq_true, if_false] using this

theorem Abandons.of_named {r : SlotRecord} (slot : s.slot i = .issued r) (lost : named i = true) :
    t.slot i = .abandoned { r with
      outcome := .timeout, readData := none
      partner := if (r.partner.map fun p => (s.slot p).isDoneWaiting).getD false then none else r.partner } := by
  have := h i
  simpa only [slot, lost, if_true] using this

/-- No record gains a reference. -/
theorem Abandons.partner {x : SlotRecord} {p : SlotId} (record : (t.slot i).record? = some x) (names : x.partner = some p) :
    ∃ y, (s.slot i).record? = some y ∧ y.partner = some p := by
  cases slot : s.slot i with
  | free => rw [h.of_free slot] at record; cases record
  | abandoned y => rw [h.of_abandoned slot] at record; cases record; exact ⟨x, rfl, names⟩
  | doneWaiting y =>
    rw [h.of_doneWaiting slot] at record
    split at record
    · cases record
    · cases record; exact ⟨x, rfl, names⟩
  | issued y =>
    refine ⟨y, rfl, ?_⟩
    by_cases lost : named i = true
    · rw [h.of_named slot lost] at record
      cases record
      dsimp only at names
      split at names
      · cases names
      · exact names
    · rw [h.of_issued slot (Bool.eq_false_iff.2 lost)] at record
      cases record
      exact names

end

/-- Whether the FAULT of an abandoned piece's transaction is due: no partner, one not ISSUED before, or one abandoned before
it (R128, R136). -/
def State.endsLast (s : State) (named : SlotId → Bool) (i : SlotId) (r : SlotRecord) : Bool :=
  match r.partner with
  | none => true
  | some p => !(s.slot p).isIssued || (named p && decide (p < i))

/-- The FAULT that slot `i` brings, if any. -/
def State.faultAt (s : State) (named : SlotId → Bool) (i : SlotId) : Option Response :=
  match s.slot i with
  | .issued r =>
    if named i && s.endsLast named i r then some (plainResponse r.requester r.tag .fault) else none
  | .free => none
  | .doneWaiting _ => none
  | .abandoned _ => none

theorem State.faultsOf_eq (s : State) (named : SlotId → Bool) :
    s.faultsOf named = (List.finRange 16).filterMap (s.faultAt named) := by
  refine List.filterMap_congr fun i _ => ?_
  rw [State.faultAt]
  cases s.slot i <;> rfl

/-- Slot `i` and the slots named before it. -/
def namedBelow (named : SlotId → Bool) (k : Nat) (i : SlotId) : Bool := named i && decide (i.val < k)

theorem namedBelow_succ {named : SlotId → Bool} {i j : SlotId} (other : j = i → named j = false) :
    namedBelow named (i.val + 1) j = namedBelow named i.val j := by
  rw [namedBelow, namedBelow]
  by_cases same : j = i
  · simp [other same]
  · have apart : j.val ≠ i.val := fun h => same (Fin.ext h)
    have below : j.val < i.val + 1 ↔ j.val < i.val := by omega
    rw [decide_eq_decide.2 below]

theorem Abandons.start (s : State) (named : SlotId → Bool) : Abandons s s (namedBelow named 0) := by
  intro i
  have below : namedBelow named 0 = fun _ => false := by
    funext j
    simp [namedBelow]
  rw [below]
  cases s.slot i with
  | free => rfl
  | abandoned r => rfl
  | doneWaiting r => cases h : r.partner <;> simp [h]
  | issued r => rfl

/-- The partner of a DONE_WAITING slot is ISSUED (R121). -/
theorem PairLaw.waits_for {s : State} (law : PairLaw s) {i : SlotId} {r : SlotRecord} (slot : s.slot i = .doneWaiting r) :
    ∃ p q, r.partner = some p ∧ s.slot p = .issued q ∧ q.partner = some i := by
  have record : (s.slot i).record? = some r := by rw [slot]; rfl
  obtain ⟨-, partner, waiting⟩ := law i r record
  obtain ⟨p, q, names, issued⟩ := waiting slot
  obtain ⟨q', record', back, -⟩ := partner p names
  rw [issued] at record'
  cases record'
  exact ⟨p, q, names, issued, back⟩

/-- A slot that is not ISSUED, or not named, is passed over. -/
theorem Abandons.pass {s t : State} {named : SlotId → Bool} {i : SlotId} (law : PairLaw s)
    (h : Abandons s t (namedBelow named i.val)) (unnamed : (s.slot i).isIssued = true → named i = false) :
    Abandons s t (namedBelow named (i.val + 1)) := by
  intro j
  have before := h j
  cases slot : s.slot j with
  | free => rwa [slot] at before
  | abandoned r => rwa [slot] at before
  | doneWaiting r =>
    obtain ⟨p, q, names, issued, -⟩ := law.waits_for slot
    have same := namedBelow_succ (named := named) (i := i) (j := p) fun h => by
      subst h; exact unnamed (by rw [issued]; rfl)
    rw [slot] at before
    simpa [names, same] using before
  | issued r =>
    have same := namedBelow_succ (named := named) (i := i) (j := j) fun h => by
      subst h; exact unnamed (by rw [slot]; rfl)
    rw [slot] at before
    simpa [same] using before

section
variable {s t : State} {named : SlotId → Bool} {i : SlotId} {r : SlotRecord} (law : PairLaw s)
  (h : Abandons s t (namedBelow named i.val)) (slot : s.slot i = .issued r) (name : named i = true)
include law h slot name

/-- What the table has to be when slot `i` goes ABANDONED too: its own record, and its partner FREE if it was
DONE_WAITING. -/
theorem Abandons.of_table {u : State}
    (own : u.slot i = .abandoned { r with
      outcome := .timeout, readData := none
      partner := if (r.partner.map fun p => (s.slot p).isDoneWaiting).getD false then none else r.partner })
    (rest : ∀ j, j ≠ i → u.slot j = if r.partner = some j ∧ (s.slot j).isDoneWaiting = true then .free else t.slot j) :
    Abandons s u (namedBelow named (i.val + 1)) := by
  have record : (s.slot i).record? = some r := by rw [slot]; rfl
  have self : namedBelow named (i.val + 1) i = true := by simp [namedBelow, name]
  have others (j : SlotId) (apart : j ≠ i) := namedBelow_succ (named := named) (i := i) (j := j) fun h => absurd h apart
  obtain ⟨-, partner, -⟩ := law i r record
  intro j
  by_cases same : j = i
  · subst same
    rw [own, slot]
    simp [self]
  · rw [rest j same]
    cases slotJ : s.slot j with
    | free => simpa [Slot.isDoneWaiting] using h.of_free slotJ
    | abandoned q => simpa [Slot.isDoneWaiting] using h.of_abandoned slotJ
    | issued q =>
      have before := h j
      rw [slotJ, ← others j same] at before
      simpa [Slot.isDoneWaiting] using before
    | doneWaiting q =>
      obtain ⟨k, q', namesK, issuedK, back⟩ := law.waits_for slotJ
      by_cases isI : k = i
      · subst isI
        rw [slot] at issuedK
        cases issuedK
        simp [back, Slot.isDoneWaiting, namesK, self]
      · have notPartner : r.partner ≠ some j := fun names => by
          obtain ⟨x, recordX, backX, -⟩ := partner j names
          rw [slotJ] at recordX
          cases recordX
          rw [namesK] at backX
          exact isI (Option.some.inj backX)
        rw [if_neg fun both => notPartner both.1, h.of_doneWaiting slotJ]
        simp [namesK, others k isI]

/-- With a partner that is not DONE_WAITING only the slot itself is written. -/
theorem Abandons.of_setSlot {u : State} (slots : u.slots = (t.setSlot i (.abandoned r.timedOut)).slots)
    (partner : ∀ p, r.partner = some p → (s.slot p).isDoneWaiting = false) :
    Abandons s u (namedBelow named (i.val + 1)) := by
  have written (j : SlotId) : u.slot j = if j = i then .abandoned r.timedOut else t.slot j := by
    rw [← State.setSlot_slot, State.slot, slots, State.slot]
  refine Abandons.of_table law h slot name ?_ fun j other => ?_
  · rw [written, if_pos rfl, SlotRecord.timedOut]
    cases names : r.partner with
    | none => rfl
    | some p => simp [partner p names]
  · rw [written, if_neg other, if_neg]
    rintro ⟨names, waiting⟩
    rw [partner j names] at waiting
    cases waiting

/-- A DONE_WAITING partner goes FREE, and the ABANDONED record forgets it. -/
theorem Abandons.of_freeSlot {u : State} {p : SlotId} (names : r.partner = some p) (apart : p ≠ i)
    (waiting : (s.slot p).isDoneWaiting = true) (slots : u.slots = ((t.setSlot i (.abandoned r.timedOut)).freeSlot p).slots) :
    Abandons s u (namedBelow named (i.val + 1)) := by
  have record : (s.slot i).record? = some r := by rw [slot]; rfl
  have written (j : SlotId) : u.slot j =
      if j = p then .free else (if j = i then .abandoned r.timedOut else t.slot j).forget fun k => decide (k = p) := by
    rw [← State.setSlot_slot, ← State.freeSlot_slot, State.slot, slots, State.slot]
  refine Abandons.of_table law h slot name ?_ fun j other => ?_
  · rw [written, if_neg apart.symm, if_pos rfl, Slot.forget, SlotRecord.forget_eq]
    simp [SlotRecord.timedOut, names, waiting]
  · rw [written, if_neg other, names]
    by_cases isP : j = p
    · simp [isP, waiting]
    · rw [if_neg isP, if_neg fun both => isP (Option.some.inj both.1).symm]
      obtain ⟨-, partner, -⟩ := law i r record
      obtain ⟨q, recordP, back, -⟩ := partner p names
      refine Slot.forget_of_not_named fun x recordX k namesK => decide_eq_false fun same => ?_
      obtain ⟨y, recordY, namesY⟩ := h.partner recordX (same ▸ namesK)
      exact law.named_only recordP back recordY other namesY

/-- Slot `i`, ISSUED and named, goes ABANDONED: with it the slots named up to `i` are, and its FAULT is given when it is
due. -/
theorem Abandons.step :
    Abandons s (t.abandonSlot i r) (namedBelow named (i.val + 1)) ∧
      (t.abandonSlot i r).out = { t.out with responses := t.out.responses ++ (s.faultAt named i).toList } := by
  have record : (s.slot i).record? = some r := by rw [slot]; rfl
  obtain ⟨whole, partner, -⟩ := law i r record
  have due : (s.faultAt named i).toList =
      if s.endsLast named i r then [plainResponse r.requester r.tag .fault] else [] := by
    rw [State.faultAt, slot]
    simp only [name, Bool.true_and]
    split <;> rfl
  rw [due]
  cases names : r.partner with
  | none =>
    rw [State.abandonSlot_of_alone names, State.endsLast, names]
    exact ⟨Abandons.of_setSlot law h slot name rfl (by simp [names]), rfl⟩
  | some p =>
    have apart := law.partner_ne record names
    have role : r.role ≠ .whole := fun h => by rw [whole h] at names; cases names
    obtain ⟨q, recordP, back, -⟩ := partner p names
    simp only [State.endsLast, names]
    cases slotP : s.slot p with
    | free => rw [slotP] at recordP; cases recordP
    | abandoned w =>
      rw [State.abandonSlot_of_abandoned role names apart (h.of_abandoned slotP)]
      exact ⟨Abandons.of_setSlot law h slot name rfl (by simp [names, slotP, Slot.isDoneWaiting]), rfl⟩
    | doneWaiting w =>
      rw [slotP] at recordP
      cases recordP
      have waiting : t.slot p = .doneWaiting q := by
        rw [h.of_doneWaiting slotP, back]
        simp [namedBelow]
      rw [State.abandonSlot_of_doneWaiting role names apart waiting]
      exact ⟨Abandons.of_freeSlot law h slot name names apart (by rw [slotP]; rfl) rfl, rfl⟩
    | issued w =>
      have calm : ∀ k, r.partner = some k → (s.slot k).isDoneWaiting = false := by
        simp [names, slotP, Slot.isDoneWaiting]
      cases before : namedBelow named i.val p with
      | true =>
        have earlier : (named p && decide (p < i)) = true := before
        rw [State.abandonSlot_of_abandoned role names apart (h.of_named slotP before), earlier]
        exact ⟨Abandons.of_setSlot law h slot name rfl calm, by rw [Bool.or_true]; rfl⟩
      | false =>
        have later : (named p && decide (p < i)) = false := before
        rw [State.abandonSlot_of_issued role names apart (h.of_issued slotP before), later]
        exact ⟨Abandons.of_setSlot law h slot name rfl calm, by simp [Slot.isIssued]⟩

end

/-! ## A run of slots -/

/-- Slot `i` goes ABANDONED when it is ISSUED and named. -/
def State.abandonIf (named : SlotId → Bool) (s : State) (i : SlotId) : State :=
  match s.slot i with
  | .issued r => if named i then s.abandonSlot i r else s
  | .free => s
  | .doneWaiting _ => s
  | .abandoned _ => s

theorem State.abandonIf_of_issued {s : State} {i : SlotId} {r : SlotRecord} (slot : s.slot i = .issued r)
    (named : SlotId → Bool) : s.abandonIf named i = if named i then s.abandonSlot i r else s := by
  simp only [State.abandonIf, slot]

theorem State.abandonIf_of_not_issued {s : State} {i : SlotId} (slot : (s.slot i).isIssued = false)
    (named : SlotId → Bool) : s.abandonIf named i = s := by
  cases h : s.slot i <;> simp_all [State.abandonIf, Slot.isIssued]

/-- The slots below `k` that are named, abandoned one after another. -/
def State.abandonBelow (s : State) (named : SlotId → Bool) (k : Nat) : State :=
  ((List.finRange 16).take k).foldl (State.abandonIf named) s

theorem take_succ_finRange {n k : Nat} (h : k < n) :
    (List.finRange n).take (k + 1) = (List.finRange n).take k ++ [⟨k, h⟩] := by
  rw [List.take_succ_eq_append_getElem (by simpa using h)]
  simp

theorem State.abandonBelow_succ (s : State) (named : SlotId → Bool) (i : SlotId) :
    s.abandonBelow named (i.val + 1) = (s.abandonBelow named i.val).abandonIf named i := by
  rw [State.abandonBelow, take_succ_finRange i.isLt, List.foldl_append]
  rfl

/-- A slot not reached yet is ISSUED exactly when it was before. -/
theorem Abandons.isIssued {s t : State} {named : SlotId → Bool} {i : SlotId}
    (h : Abandons s t (namedBelow named i.val)) : (t.slot i).isIssued = (s.slot i).isIssued := by
  have self : namedBelow named i.val i = false := by simp [namedBelow]
  cases slot : s.slot i with
  | free => rw [h.of_free slot]
  | abandoned r => rw [h.of_abandoned slot]
  | issued r => rw [h.of_issued slot self]
  | doneWaiting r =>
    rw [h.of_doneWaiting slot]
    split <;> rfl

theorem Slot.isIssued_iff (x : Slot) : x.isIssued = true ↔ ∃ r, x = .issued r := by
  cases x <;> simp [Slot.isIssued]

theorem filterMap_singleton {α β : Type} (f : α → Option β) (a : α) : [a].filterMap f = (f a).toList := by
  cases h : f a <;> simp [h]

/-- After the slots below `k` the table is that of `Abandons`, the FAULT responses stand in slot order, and nothing else has
changed. -/
theorem State.abandonBelow_spec {s : State} (law : PairLaw s) (named : SlotId → Bool) {k : Nat} (bound : k ≤ 16) :
    Abandons s (s.abandonBelow named k) (namedBelow named k) ∧
      s.abandonBelow named k = { s with
        slots := (s.abandonBelow named k).slots
        out := { s.out with responses := s.out.responses ++
          ((List.finRange 16).take k).filterMap (s.faultAt named) } } := by
  induction k with
  | zero => exact ⟨Abandons.start s named, by simp [State.abandonBelow]⟩
  | succ k ih =>
    obtain ⟨table, frame⟩ := ih (by omega)
    let i : SlotId := ⟨k, by omega⟩
    have next := s.abandonBelow_succ named i
    change s.abandonBelow named (k + 1) = _ at next
    rw [take_succ_finRange (by omega : k < 16), List.filterMap_append, filterMap_singleton, next]
    change _ ∧ _ = { s with slots := _, out := { s.out with responses := _ ++ (_ ++ (s.faultAt named i).toList) } }
    generalize s.abandonBelow named k = t at table frame
    have framed (slots : Table Slot 16) (out : Outputs) :
        { t with slots := slots, out := out } = { s with slots := slots, out := out } := by rw [frame]
    have outT : t.out = { s.out with responses := s.out.responses ++
        ((List.finRange 16).take k).filterMap (s.faultAt named) } := congrArg (·.out) frame
    by_cases hit : (s.slot i).isIssued = true ∧ named i = true
    · obtain ⟨issued, name⟩ := hit
      obtain ⟨r, slot⟩ := (Slot.isIssued_iff _).1 issued
      have slotT : t.slot i = .issued r := Abandons.of_issued table slot (by simp [namedBelow, i])
      obtain ⟨table', out⟩ := Abandons.step law table slot name
      rw [State.abandonIf_of_issued slotT, if_pos name]
      refine ⟨table', (State.abandonSlot_frame t i r).trans ((framed _ _).trans ?_)⟩
      rw [out, outT, List.append_assoc]
    · have unnamed : (s.slot i).isIssued = true → named i = false := fun issued =>
        Bool.eq_false_iff.2 fun name => hit ⟨issued, name⟩
      have kept : t.abandonIf named i = t := by
        by_cases issued : (t.slot i).isIssued = true
        · obtain ⟨r, slotT⟩ := (Slot.isIssued_iff _).1 issued
          rw [State.abandonIf_of_issued slotT, unnamed (table.isIssued (i := i) ▸ issued)]
          rfl
        · exact State.abandonIf_of_not_issued (Bool.eq_false_iff.2 issued) named
      have silent : s.faultAt named i = none := by
        rw [State.faultAt]
        split
        next r slot => rw [unnamed (by rw [slot]; rfl)]; rfl
        all_goals rfl
      rw [kept]
      refine ⟨Abandons.pass law table unnamed, frame.trans ?_⟩
      rw [silent, Option.toList_none, List.append_nil]

/-- After all sixteen slots. -/
theorem State.foldl_abandonIf {s : State} (law : PairLaw s) (named : SlotId → Bool) :
    Abandons s ((List.finRange 16).foldl (State.abandonIf named) s) named ∧
      (List.finRange 16).foldl (State.abandonIf named) s =
        { s with slots := ((List.finRange 16).foldl (State.abandonIf named) s).slots
                 out := { s.out with responses := s.out.responses ++ s.faultsOf named } } := by
  have h := State.abandonBelow_spec law named le_rfl
  have all : namedBelow named 16 = named := funext fun i => by simp [namedBelow]
  rw [State.abandonBelow, all, List.take_of_length_le (by simp), ← State.faultsOf_eq] at h
  exact h

/-! ## The forced end at the slots (R136) -/

theorem State.forceSlot_eq (s : State) (i : SlotId) : s.forceSlot i = s.abandonIf (fun _ => true) i := by
  rw [State.forceSlot, State.abandonIf]
  cases s.slot i <;> rfl

theorem State.forceSlots_eq (s : State) : s.forceSlots = (List.finRange 16).foldl (State.abandonIf fun _ => true) s :=
  congrArg (fun f => (List.finRange 16).foldl f s) (funext fun s => funext fun i => s.forceSlot_eq i)

/-- Naming every slot names the ISSUED ones. -/
theorem Abandons.of_all {s t : State} (law : PairLaw s) (h : Abandons s t fun _ => true) :
    Abandons s t fun i => (s.slot i).isIssued := by
  intro i
  have hi := h i
  cases slot : s.slot i with
  | free => rwa [slot] at hi
  | abandoned r => rwa [slot] at hi
  | issued r => simpa [slot, Slot.isIssued] using hi
  | doneWaiting r =>
    obtain ⟨p, q, names, issued, -⟩ := law.waits_for slot
    rw [slot] at hi
    simpa [names, issued, Slot.isIssued] using hi

theorem State.faultsOf_all (s : State) : (s.faultsOf fun _ => true) = s.faultsOf fun i => (s.slot i).isIssued := by
  rw [State.faultsOf_eq, State.faultsOf_eq]
  refine List.filterMap_congr fun i _ => ?_
  rw [State.faultAt, State.faultAt]
  cases slot : s.slot i with
  | issued r =>
    have last : s.endsLast (fun _ => true) i r = s.endsLast (fun i => (s.slot i).isIssued) i r := by
      rw [State.endsLast, State.endsLast]
      cases r.partner with
      | none => rfl
      | some p => cases h : (s.slot p).isIssued <;> simp [h]
    simp [last, Slot.isIssued]
  | free => rfl
  | doneWaiting r => rfl
  | abandoned r => rfl

theorem State.forceSlots_spec {s : State} (law : PairLaw s) :
    Abandons s s.forceSlots (fun i => (s.slot i).isIssued) ∧
      s.forceSlots = { s with
        slots := s.forceSlots.slots
        out := { s.out with responses := s.out.responses ++ s.faultsOf fun i => (s.slot i).isIssued } } := by
  have h := State.foldl_abandonIf law fun _ => true
  rw [← State.forceSlots_eq, State.faultsOf_all] at h
  exact ⟨Abandons.of_all law h.1, h.2⟩

/-! ## Completion timeouts (R128) -/

/-- The log and the latch are no part of what an abandoned slot reads. -/
theorem State.abandonSlot_log (s : State) (l : IncidentLog) (c : LatchedCauses) (i : SlotId) (r : SlotRecord) :
    { s with log := l, latched := c }.abandonSlot i r = { s.abandonSlot i r with log := l, latched := c } := by
  unfold State.abandonSlot
  cases r.role <;> cases r.partner <;> try rfl
  all_goals
    next p =>
      have same : ({ s with log := l, latched := c }.setSlot i (.abandoned r.timedOut)).slot p =
        (s.setSlot i (.abandoned r.timedOut)).slot p := rfl
      cases h : (s.setSlot i (.abandoned r.timedOut)).slot p <;> simp only [same, h] <;> rfl

/-- The incident of a slot whose timeout is reached (R128). -/
def State.timeoutIncident (s : State) (limit : Nat) (i : SlotId) : Option Incident :=
  if (s.slot i).overdue limit then (s.slot i).record?.map fun q => .completionTimeout q.requester q.tag i else none

/-- The part with these timeouts recorded and QUARANTINE latched when there is one. -/
def State.withTimeouts (s : State) (is : List Incident) : State :=
  { s with
    log := s.log.handed s.timer.windowNumber is
    latched := { s.latched with
      quarantine := s.latched.quarantine || !is.isEmpty, logLost := s.latched.logLost || s.log.overflows is } }

theorem State.withTimeouts_withTimeouts (s : State) (a b : List Incident) :
    (s.withTimeouts a).withTimeouts b = s.withTimeouts (a ++ b) := by
  have some' : (!a.isEmpty || !b.isEmpty) = !(a ++ b).isEmpty := by cases a <;> rfl
  simp only [State.withTimeouts, IncidentLog.handed_append, IncidentLog.overflows_append _ s.timer.windowNumber,
    Bool.or_assoc, ← some']

theorem State.withTimeouts_nil (s : State) : s.withTimeouts [] = s := by
  simp [State.withTimeouts, IncidentLog.handed, IncidentLog.overflows]

/-- Timeouts recorded before or after a slot is abandoned. -/
theorem State.abandonSlot_withTimeouts (s : State) (is : List Incident) (i : SlotId) (r : SlotRecord) :
    (s.withTimeouts is).abandonSlot i r = (s.abandonSlot i r).withTimeouts is := by
  rw [State.withTimeouts, State.abandonSlot_log, State.withTimeouts, State.abandonSlot_frame]

theorem State.abandonIf_withTimeouts (s : State) (is : List Incident) (named : SlotId → Bool) (i : SlotId) :
    (s.withTimeouts is).abandonIf named i = (s.abandonIf named i).withTimeouts is := by
  have same : (s.withTimeouts is).slot i = s.slot i := rfl
  rw [State.abandonIf, State.abandonIf, same]
  cases s.slot i with
  | issued r =>
    by_cases name : named i = true
    · simp only [name, if_true, State.abandonSlot_withTimeouts]
    · simp only [name, Bool.false_eq_true, if_false]
  | free => rfl
  | doneWaiting r => rfl
  | abandoned r => rfl

theorem State.abandonIf_congr {f g : SlotId → Bool} (s : State) {i : SlotId} (h : f i = g i) :
    s.abandonIf f i = s.abandonIf g i := by
  rw [State.abandonIf, State.abandonIf, h]

/-- One slot's timeout is its abandonment, when it is overdue, with its record. -/
theorem State.timeoutSlot_eq (limit : Nat) (s : State) (i : SlotId) :
    s.timeoutSlot limit i =
      (s.abandonIf (fun j => (s.slot j).overdue limit) i).withTimeouts (s.timeoutIncident limit i).toList := by
  rw [State.timeoutSlot, State.abandonIf, State.timeoutIncident]
  cases h : s.slot i with
  | issued r =>
    by_cases late : limit ≠ 0 ∧ limit ≤ r.ticks
    · have overdue : (Slot.issued r).overdue limit = true := by simpa [Slot.overdue] using late
      have noted : (s.record (.completionTimeout r.requester r.tag i)).latch LatchedCauses.withQuarantine =
          s.withTimeouts [.completionTimeout r.requester r.tag i] := by
        rw [State.record_eq]
        simp [State.withTimeouts, State.withIncidents, State.latch, LatchedCauses.withQuarantine]
      simp only [if_pos late, overdue, if_true, noted, State.abandonSlot_withTimeouts]
      rfl
    · have overdue : (Slot.issued r).overdue limit = false := by
        simpa [Slot.overdue] using late
      simp only [if_neg late, overdue, Bool.false_eq_true, if_false]
      exact s.withTimeouts_nil.symm
  | free => exact s.withTimeouts_nil.symm
  | doneWaiting r => exact s.withTimeouts_nil.symm
  | abandoned r => exact s.withTimeouts_nil.symm

/-- A slot not reached yet is overdue exactly when it was before, and its incident is the same. -/
theorem Abandons.overdue {s t : State} {named : SlotId → Bool} {i : SlotId} (h : Abandons s t (namedBelow named i.val))
    (limit : Nat) : (t.slot i).overdue limit = (s.slot i).overdue limit ∧
      t.timeoutIncident limit i = s.timeoutIncident limit i := by
  have self : namedBelow named i.val i = false := by simp [namedBelow]
  rw [State.timeoutIncident, State.timeoutIncident]
  cases slot : s.slot i with
  | free => rw [h.of_free slot]; exact ⟨rfl, rfl⟩
  | abandoned r => rw [h.of_abandoned slot]; exact ⟨rfl, rfl⟩
  | issued r => rw [h.of_issued slot self]; exact ⟨rfl, rfl⟩
  | doneWaiting r =>
    rw [h.of_doneWaiting slot]
    split <;> exact ⟨rfl, rfl⟩

/-- The comparison of the slots in ascending order: the overdue ones abandoned, and their records (R128). -/
theorem State.foldl_timeoutSlot_take {s : State} (law : PairLaw s) (limit : Nat) {k : Nat} (bound : k ≤ 16) :
    ((List.finRange 16).take k).foldl (State.timeoutSlot limit) s =
      (s.abandonBelow (fun i => (s.slot i).overdue limit) k).withTimeouts
        (((List.finRange 16).take k).filterMap (s.timeoutIncident limit)) := by
  induction k with
  | zero => exact (s.withTimeouts_nil).symm
  | succ k ih =>
    let i : SlotId := ⟨k, by omega⟩
    obtain ⟨table, -⟩ := State.abandonBelow_spec law (fun i => (s.slot i).overdue limit) (by omega : k ≤ 16)
    obtain ⟨overdue, incident⟩ := Abandons.overdue (i := i) table limit
    have next := s.abandonBelow_succ (fun i => (s.slot i).overdue limit) i
    change s.abandonBelow _ (k + 1) = _ at next
    rw [take_succ_finRange (by omega : k < 16), List.filterMap_append, filterMap_singleton, List.foldl_append,
      ih (by omega), next, List.foldl_cons, List.foldl_nil, State.timeoutSlot_eq, State.abandonIf_withTimeouts]
    rw [State.withTimeouts_withTimeouts]
    exact congrArg₂ (fun u o => State.withTimeouts u (_ ++ Option.toList o)) (State.abandonIf_congr _ overdue) incident

theorem State.foldl_timeoutSlot {s : State} (law : PairLaw s) (limit : Nat) :
    (List.finRange 16).foldl (State.timeoutSlot limit) s =
      ((List.finRange 16).foldl (State.abandonIf fun i => (s.slot i).overdue limit) s).withTimeouts
        ((List.finRange 16).filterMap (s.timeoutIncident limit)) := by
  have h := State.foldl_timeoutSlot_take law limit le_rfl
  rwa [State.abandonBelow, List.take_of_length_le (by simp)] at h

/-! ## The obligation -/

theorem Slot.record?_of_overdue {x : Slot} {limit : Nat} (h : x.overdue limit = true) : ∃ r, x.record? = some r := by
  cases x with
  | issued r => exact ⟨r, rfl⟩
  | free => cases h
  | doneWaiting r => cases h
  | abandoned r => cases h

/-- The incidents of a run are one for each overdue slot. -/
theorem State.filterMap_timeoutIncident (s : State) (limit : Nat) :
    (List.finRange 16).filterMap (s.timeoutIncident limit) =
      ((List.finRange 16).filter fun i => (s.slot i).overdue limit).filterMap fun i =>
        (s.slot i).record?.map fun q => .completionTimeout q.requester q.tag i := by
  rw [List.filterMap_filter]
  rfl

theorem State.length_timeoutIncidents (s : State) (limit : Nat) :
    ((List.finRange 16).filterMap (s.timeoutIncident limit)).length =
      ((List.finRange 16).filter fun i => (s.slot i).overdue limit).length := by
  rw [List.length_filterMap_eq_countP, ← List.countP_eq_length_filter]
  refine List.countP_congr fun i _ => ?_
  rw [State.timeoutIncident]
  cases late : (s.slot i).overdue limit
  · simp
  · obtain ⟨r, record⟩ := Slot.record?_of_overdue late
    simp [record]

/-- Settles O32: the comparison is the run over all sixteen slots, with the limit that was kept. -/
theorem timeoutsAbandonOverdueSlots : Obligations.TimeoutsAbandonOverdueSlots := by
  intro s limit law closed check late
  let u : State := { s.clearOut with timeoutCheck := none }
  have lawU : PairLaw u := law
  obtain ⟨table, frame⟩ := State.foldl_abandonIf lawU fun i => (s.slot i).overdue limit
  have arm : exec .completionTimeout s = .next s.beginDue.takeTimeouts := rfl
  have taken : s.clearOut.takeTimeouts = (List.finRange 16).foldl (State.timeoutSlot limit) u := by
    rw [State.takeTimeouts, State.clearOut_timeoutCheck, check]
  have count := u.length_timeoutIncidents limit
  have empty : ((List.finRange 16).filterMap (u.timeoutIncident limit)).isEmpty = late.isEmpty := by
    rw [Bool.eq_iff_iff, List.isEmpty_iff_length_eq_zero, count, List.isEmpty_iff_length_eq_zero]
    rfl
  have incidents := s.filterMap_timeoutIncident limit
  have same : u.timeoutIncident limit = s.timeoutIncident limit := rfl
  have run := State.foldl_timeoutSlot lawU limit
  have overdue : (fun i => (u.slot i).overdue limit) = fun i => (s.slot i).overdue limit := rfl
  rw [overdue, same] at run
  rw [same] at count empty
  rw [arm, State.beginDue_of_closed closed, taken, run]
  generalize (List.finRange 16).foldl (State.abandonIf fun i => (s.slot i).overdue limit) u = x at table frame
  have log : x.log = s.log := congrArg (·.log) frame
  have timer : x.timer = s.timer := congrArg (·.timer) frame
  have latched : x.latched = s.latched := congrArg (·.latched) frame
  refine ⟨_, rfl, ?_, table, ?_, ?_⟩
  · rw [State.withTimeouts, frame]
    rfl
  · rw [← incidents, State.withTimeouts, log, timer]
  · rw [State.withTimeouts, log, latched, IncidentLog.overflows, empty, count]
    rfl

end Sys2Proof.Machine
end

section
/-! PROOFS. The ends of drains (chapter 8): the abandonment of a commit, and the normal and the forced end of a restart. -/

namespace Sys2Proof.Machine

/-! ## When an end is due -/

theorem State.abandonDue_iff (s : State) :
    s.abandonDue = true ↔ ∃ ticks limit, s.commit.state = .draining ticks limit ∧ limit ≤ ticks := by
  unfold State.abandonDue
  split
  next ticks limit state => simp [state]
  next state => simp [state]
  next state => simp [state]

theorem State.forcedEndDue_iff (s : State) :
    s.forcedEndDue = true ↔ ∃ ticks limit, s.restart = .draining ticks limit ∧ limit ≤ ticks ∧ s.forcedEnd = true := by
  unfold State.forcedEndDue
  split
  next ticks limit restart => simp [restart]
  next restart => simp [restart]

theorem State.takeAbandon_of_due {s : State} (due : s.abandonDue = true) :
    s.takeAbandon = ({ s with commit := { state := .idle, pause := false, outcome := .abandoned,
                                          outcomeWindow := s.timer.windowNumber } }.withIncidents
      [.commitAbandoned]).latch LatchedCauses.withCommitFailed := by
  rw [State.takeAbandon, if_pos due, State.record_eq]

theorem State.takeAbandon_of_not_due {s : State} (h : ¬ s.abandonDue = true) : s.takeAbandon = s := if_neg h

theorem State.takeForcedEnd_of_not_due {s : State} (h : ¬ s.forcedEndDue = true) : s.takeForcedEnd = s := if_neg h

/-- Not ISSUED, as a test of the slot. -/
theorem isIssued_eq_false {x : Slot} (h : ∀ q, x ≠ .issued q) : x.isIssued = false :=
  Bool.eq_false_iff.2 fun issued => by
    obtain ⟨q, same⟩ := (Slot.isIssued_iff x).1 issued
    exact h q same

theorem State.drained_of {s : State} (empty : s.issueQueue = []) (noneIssued : ∀ (i : SlotId) (q : SlotRecord), s.slot i ≠ .issued q) :
    s.drained = true :=
  (State.drained_iff s).2 ⟨empty, fun i => isIssued_eq_false (noneIssued i)⟩

/-! ## What a restart's end leaves of a requester -/

theorem State.restartEnd_account (s : State) (r : RequesterId) :
    s.restartEnd.account r = { balance := if (s.entry r).present = true ∧ (s.entry r).regulated = true
                                 then ((s.entry r).allowance : Int) else 0
                               beatsThis := 0, beatsLast := 0, retryCount := 0, deniedCount := 0 } := by
  refine (Table.remap_get _ _ r).trans ?_
  simp only [restartedAccount, Account.zero, RequesterEntry.accounted, Bool.and_eq_true]

theorem State.restartEnd_restraint (s : State) (r : RequesterId) :
    s.restartEnd.restraint r = { standing := .free, strikes := 0, curbHit := false } := Table.fill_get _ r

/-! ## The forced end at the issue queue and the slots -/

/-- The RETRY responses to the queued entries, in queue order (R115). -/
def State.queueAnswers (s : State) : List Response :=
  s.issueQueue.map fun x => { requester := x.requester, tag := x.tag, outcome := .retry, data := [] }

theorem State.removeQueued_eq (s : State) :
    s.removeQueued = { s with issueQueue := [] }.withRefusals s.issueQueue .retry :=
  State.refuseAll_eq _ _ _ (Or.inl rfl)

theorem State.removeQueued_out (s : State) :
    s.removeQueued.out = { s.out with responses := s.out.responses ++ s.queueAnswers } := by
  rw [State.removeQueued_eq]
  rfl

/-- The forced end of the path from `s` to `t`: the queue answered and emptied, the ISSUED slots abandoned with their FAULTs,
the two kinds of response in one order or the other (R115, R136). -/
structure EmptiesPath (s t : State) : Prop where
  table : Abandons s t fun i => (s.slot i).isIssued
  frame : t = { s with issueQueue := [], slots := t.slots, accounts := t.accounts, out := t.out
                       openChoices := t.openChoices }
  out : t.out = { s.out with responses := s.out.responses ++
            (s.queueAnswers ++ s.faultsOf fun i => (s.slot i).isIssued) } ∨
    t.out = { s.out with responses := s.out.responses ++
            ((s.faultsOf fun i => (s.slot i).isIssued) ++ s.queueAnswers) }

theorem State.removeQueued_forceSlots {s : State} (law : PairLaw s) : EmptiesPath s s.removeQueued.forceSlots := by
  have slots : s.removeQueued.slots = s.slots := by rw [State.removeQueued_eq]; rfl
  obtain ⟨table, frame⟩ := State.forceSlots_spec (law.of_slots slots)
  generalize s.removeQueued.forceSlots = t at table frame ⊢
  rw [State.removeQueued_eq] at table frame
  refine ⟨table, ?_, .inl ?_⟩
  · rw [frame]
    rfl
  · refine (congrArg (·.out) frame).trans ?_
    rw [← List.append_assoc]
    rfl

theorem State.forceSlots_removeQueued {s : State} (law : PairLaw s) : EmptiesPath s s.forceSlots.removeQueued := by
  obtain ⟨table, frame⟩ := State.forceSlots_spec law
  generalize s.forceSlots = t at table frame ⊢
  have queue : t.queueAnswers = s.queueAnswers := by rw [State.queueAnswers, frame, State.queueAnswers]
  have out := t.removeQueued_out
  rw [queue] at out
  have frame' := t.removeQueued_eq
  generalize t.removeQueued = u at out frame' ⊢
  have slots : u.slots = t.slots := congrArg (·.slots) frame'
  refine ⟨fun i => ?_, ?_, .inr ?_⟩
  · rw [State.slot, slots]
    exact table i
  · rw [frame', frame]
    rfl
  · rw [out, frame, ← List.append_assoc]

/-- Which kind of response comes first is all that is left open (R115, R136). -/
theorem State.forcePath_spec {s : State} (law : PairLaw s) : EmptiesPath s s.forcePath := by
  let u : State := { s with openChoices := s.openChoices + 1 }
  have counted {t : State} (h : EmptiesPath u t) : EmptiesPath s t := ⟨h.table, h.frame, h.out⟩
  unfold State.forcePath
  split
  · exact State.removeQueued_forceSlots law
  · split
    · exact counted (State.forceSlots_removeQueued (s := u) law)
    · exact counted (State.removeQueued_forceSlots (s := u) law)

/-! ## The obligations -/

/-- Settles O13: the step takes the abandonment that is due, from a part whose window end before is whole. -/
theorem commitIsAbandonedAtDrainLimit : Obligations.CommitIsAbandonedAtDrainLimit := by
  intro s ticks limit closed draining reached
  have due : s.clearOut.abandonDue = true := (State.abandonDue_iff _).2 ⟨ticks, limit, draining, reached⟩
  have arm : exec .commitAbandoned s = .next s.beginDue.takeAbandon := rfl
  rw [arm, State.beginDue_of_closed closed, State.takeAbandon_of_due due]
  rfl

/-- Settles O14: a complete drain ends the restart, unless the forced end of the limit's tick is due. -/
theorem restartEndsWhenDrained : Obligations.RestartEndsWhenDrained := by
  intro s ticks limit closed draining empty noneIssued
  have arm : exec .restartNormalEnd s = .next s.beginRace.takeNormalEnd := rfl
  have drained : s.clearOut.drained = true := State.drained_of empty noneIssued
  have busy : decide (s.clearOut.restart ≠ .idle) = true := by simp [draining]
  rw [arm, State.beginRace_of_closed closed, State.takeNormalEnd, busy, drained]
  refine ⟨fun forced reached => ?_, fun unforced => ?_⟩
  · have due : s.clearOut.forcedEndDue = true :=
      (State.forcedEndDue_iff _).2 ⟨ticks, limit, draining, reached, forced⟩
    rw [due]
    rfl
  · have notDue : s.clearOut.forcedEndDue = false := Bool.eq_false_iff.2 fun due => by
      obtain ⟨_, _, _, _, forced⟩ := (State.forcedEndDue_iff _).1 due
      exact absurd (unforced.symm.trans forced) Bool.false_ne_true
    rw [notDue]
    exact ⟨s.clearOut.restartEnd, rfl, rfl, fun r => ⟨State.restartEnd_account _ r, State.restartEnd_restraint _ r⟩⟩

/-- Settles O15: the path is emptied, RESTART_FORCED recorded with the slots found ISSUED, and the restart's end follows;
the forced end's own tick counts when its window end was still due. -/
theorem restartForcedEndEmptiesThePath : Obligations.RestartForcedEndEmptiesThePath := by
  intro s ticks limit law closed draining reached
  have arm : exec .restartForcedEnd s = .next s.beginDue.takeForcedEnd := rfl
  rw [arm, State.beginDue_of_closed closed]
  refine ⟨fun unforced => congrArg _ (State.takeForcedEnd_of_none (s := s.clearOut) unforced), fun forced => ?_⟩
  have due : s.clearOut.forcedEndDue = true := (State.forcedEndDue_iff _).2 ⟨ticks, limit, draining, reached, forced⟩
  have count : (s.clearOut.slotsWhere Slot.isIssued).length = (List.finRange 16).countP fun i => (s.slot i).isIssued :=
    List.countP_eq_length_filter.symm
  obtain ⟨table, frame, out⟩ := State.forcePath_spec (s := { s.clearOut with
    openChoices := s.openChoices + 1, forcedEnd := false }) law
  have taken : s.clearOut.takeForcedEnd =
      let u := (({ s.clearOut with openChoices := s.openChoices + 1, forcedEnd := false }.forcePath.record
        (.restartForced ((List.finRange 16).countP fun i => (s.slot i).isIssued))).restartEnd)
      { u with timer := if s.clearOut.tickStillCounts then { counter := 1, elapsed := 1, windowNumber := 0 } else u.timer } := by
    rw [State.takeForcedEnd, if_pos due, count]
    dsimp only
    split <;> rfl
  rw [taken, State.record_eq]
  generalize ({ s.clearOut with openChoices := s.openChoices + 1, forcedEnd := false } : State).forcePath = x at table frame out ⊢
  have entry (r : RequesterId) : x.entry r = s.entry r := congrArg (fun y => y.active.requesters[r]) frame
  have latched : x.latched = s.latched := congrArg (·.latched) frame
  have log : x.log = s.log := congrArg (·.log) frame
  refine ⟨_, rfl, ?_, ?_, ?_, ?_, ?_, table, ?_, fun r => ⟨?_, Table.fill_get _ r⟩⟩
  · rw [frame]
    rfl
  · have lost (i : Incident) : (x.withIncidents [i]).latched =
        { s.latched with logLost := s.latched.logLost || decide (32 ≤ s.log.records.length) } := by
      rw [← latched, ← log, ← IncidentLog.overflows_singleton x.log i]
      rfl
    exact congrArg LatchedCauses.withRestartDone (lost _)
  · intro full
    have counts : s.clearOut.tickStillCounts = true := by
      simp [State.tickStillCounts, State.windowEndDue, full]
    exact if_pos counts
  · intro zero below
    have counts : s.clearOut.tickStillCounts = false := by
      simp [State.tickStillCounts, State.windowEndDue, zero]
      omega
    exact if_neg (Bool.eq_false_iff.1 counts)
  · by_cases counts : s.clearOut.tickStillCounts = true
    · exact .inr (if_pos counts)
    · exact .inl (if_neg counts)
  · exact out
  · rw [← entry r]
    exact State.restartEnd_account (x.withIncidents _) r

end Sys2Proof.Machine
end

section
/-! PROOFS. Admission (chapter 2) past the refusals of steps 1 to 4b: the range check's decisions, holding and forwarding,
and when the U-port is granted a free issue queue entry. -/

namespace Sys2Proof.Machine

/-! ## Which step decides -/

/-- A transaction that reaches the range check is decided from there on (R31). -/
theorem State.decideAdmission_of_reachesRangeCheck {s : State} {x : Transaction} (h : ReachesRangeCheck s x) :
    s.decideAdmission x = s.decideRange x := by
  obtain ⟨wellFormed, fresh, idle, mode, present, standing⟩ := h
  rw [State.decideAdmission_of_regulating wellFormed fresh idle mode, present, if_neg (by simp), if_neg standing]

/-- The deciding entry's action and index decide, unless the action is PASS (R71). -/
theorem State.decideAdmission_of_decides {s : State} {x : Transaction} {n : RangeId} {a : RangeAction}
    (h : ReachesRangeCheck s x) (decides : Decides s x n a) :
    s.decideAdmission x = match a with
      | .pass => if (s.restraint x.requester).standing = .curbed then .curbed else s.decideHold x
      | .deny => .rangeDeny n
      | .curb => .rangeCurb n
      | .isolate => .rangeIsolate n := by
  rw [State.decideAdmission_of_reachesRangeCheck h, State.decideRange,
    State.rangeCheck_of_decides (length_pos_of_not_malformed h.1) decides]
  cases a <;> rfl

/-- In TRANSPARENT mode step 4 is left out (R28). -/
theorem State.decideAdmission_of_transparent {s : State} {x : Transaction} (wellFormed : ¬ Malformed x)
    (fresh : ¬ LivePair s x.requester x.tag) (idle : s.restart = .idle) (mode : s.active.global.mode ≠ .regulating) :
    s.decideAdmission x = s.decideHold x := by
  rw [State.decideAdmission, if_neg (mt (malformed_iff x).1 wellFormed), if_neg (mt (s.live_iff _ _).1 fresh),
    if_neg (not_not.2 idle), if_neg (show ¬ s.regulating = true from mt of_decide_eq_true mode)]

/-- A transaction that reaches the hold test is decided by it, in either mode (R33). -/
theorem State.decideAdmission_of_reachesHoldTest {s : State} {x : Transaction} (h : ReachesHoldTest s x) :
    s.decideAdmission x = s.decideHold x := by
  obtain ⟨wellFormed, fresh, idle, step4⟩ := h
  by_cases mode : s.active.global.mode = .regulating
  · obtain ⟨present, free, passes⟩ := step4 mode
    have reaches : ReachesRangeCheck s x := ⟨wellFormed, fresh, idle, mode, present, by simp [free]⟩
    rw [State.decideAdmission_of_reachesRangeCheck reaches, State.decideRange_of_passes wellFormed passes,
      if_neg (by simp [free])]
  · exact State.decideAdmission_of_transparent wellFormed fresh idle mode

theorem State.decideHold_of_not_toBeHeld {s : State} {x : Transaction} (h : ¬ ToBeHeld s x.requester) :
    s.decideHold x = .forward :=
  if_neg (mt (s.toBeHeld_iff _).1 h)

theorem State.holdRoom_iff (s : State) (r : RequesterId) :
    s.holdRoom r = true ↔ s.hold.length < 48 ∧ s.heldCount r < (s.entry r).holdShare := by
  rw [State.holdRoom, Bool.and_eq_true, decide_eq_true_iff, decide_eq_true_iff, Config.holdCapacity]

/-- Room in the queue and in the requester's share (R34). -/
theorem State.decideHold_of_toBeHeld {s : State} {x : Transaction} (h : ToBeHeld s x.requester) :
    s.decideHold x = if s.hold.length < 48 ∧ s.heldCount x.requester < (s.entry x.requester).holdShare
      then .hold else .noRoom := by
  rw [State.decideHold, if_pos ((s.toBeHeld_iff _).2 h)]
  simp only [State.holdRoom_iff]

/-! ## Refusing transactions of one requester -/

theorem Account.refused_denied (a : Account) (n : Nat) :
    a.refused .denied n = { a with deniedCount := a.deniedCount + BitVec.ofNat 16 n } := rfl

theorem Account.refused_zero (a : Account) (o : ResponseOutcome) : a.refused o 0 = a := by
  simp [Account.refused]

/-- Refusals to one present requester count in its account alone. -/
theorem State.withRefusals_account_of_one {s : State} {ts : List Transaction} {o : ResponseOutcome} {q : RequesterId}
    (own : ∀ t ∈ ts, t.requester = q) (present : (s.entry q).present = true) (r : RequesterId) :
    (s.withRefusals ts o).account r = if r = q then (s.account r).refused o ts.length else s.account r := by
  rw [State.withRefusals_account]
  by_cases same : r = q
  · have all : ts.countP (fun t => decide (t.requester = r)) = ts.length :=
      List.countP_eq_length.2 fun t mem => decide_eq_true ((own t mem).trans same.symm)
    rw [all, if_pos same, if_pos (same ▸ present)]
  · have none : ts.countP (fun t => decide (t.requester = r)) = 0 :=
      List.countP_eq_zero.2 fun t mem k => same ((of_decide_eq_true k).symm.trans (own t mem))
    rw [none, Account.refused_zero, ite_self, if_neg same]

/-! ## What the decisions that do more than refuse come to -/

/-- CURB refuses and reports (R83). -/
theorem State.actOnDecision_of_rangeCurb {s : State} {x : Transaction} {n : RangeId}
    (h : s.decideAdmission x = .rangeCurb n) :
    s.actOnDecision x =
      { (s.withRefusal x .denied).withIncidents [.rangeCurb x.requester x.tag x.address n] with
        restraints := Table.put s.restraints x.requester
          { standing := .curbed, strikes := (s.restraint x.requester).strikes, curbHit := true } } := by
  rw [State.actOnDecision, h]
  simp only [State.refuse_eq s x .denied (Or.inr rfl), State.record_eq]
  rfl

/-- ISOLATE refuses and isolates (R84): the transaction and the entries flushed are refused as one run. -/
theorem State.actOnDecision_of_rangeIsolate {s : State} {x : Transaction} {n : RangeId}
    (h : s.decideAdmission x = .rangeIsolate n) :
    s.actOnDecision x =
      ({ s.withIncidents [.rangeIsolate x.requester x.tag x.address n] with
          restraints := Table.put s.restraints x.requester { s.restraint x.requester with standing := .isolated }
          hold := s.hold.filter fun e : HeldEntry => !decide (e.txn.requester = x.requester) }.withRefusals
        (x :: (s.hold.filter fun e : HeldEntry => decide (e.txn.requester = x.requester)).map HeldEntry.txn) .denied).latch
        LatchedCauses.withIsolation := by
  rw [State.actOnDecision, h]
  simp only [refuse_eq_withRefusals s x (Or.inr rfl), State.record_eq, State.isolate_eq]
  exact congrArg (State.latch · LatchedCauses.withIsolation)
    (State.withRefusals_withRefusals { s.withIncidents [.rangeIsolate x.requester x.tag x.address n] with
      restraints := Table.put s.restraints x.requester { s.restraint x.requester with standing := .isolated }
      hold := s.hold.filter fun e : HeldEntry => !decide (e.txn.requester = x.requester) } [x] _ (Or.inr rfl))

/-! ## When the U-port is granted an entry -/

/-- The release unit claims an entry exactly when one is eligible (R53, R102). -/
theorem State.claims_ne_nil_iff (s : State) :
    s.claims ≠ [] ↔ ∃ (before : List HeldEntry) (e : HeldEntry), EligibleAfter s before e := by
  constructor
  · intro some
    obtain ⟨x, claimed⟩ := List.exists_mem_of_ne_nil _ some
    obtain ⟨other, eligible⟩ := State.exists_eligibleAfter_of_mem_claims claimed
    exact ⟨other, x, eligible⟩
  · rintro ⟨before, e, eligible⟩
    obtain ⟨earlier, later, claims, -⟩ := State.claims_eq_of_eligibleAfter eligible
    simp [claims]

/-- A waiting request is granted one of two free entries, or the only one when it is not claimed (R102). -/
theorem State.grantDue_iff (s : State) :
    s.grantDue = true ↔ s.uPort = .waiting ∧ (s.issueQueue.length < 7 ∨ (s.issueQueue.length = 7 ∧
      ¬ ∃ (before : List HeldEntry) (e : HeldEntry), EligibleAfter s before e)) := by
  rw [← s.claims_ne_nil_iff, not_not]
  simp only [State.grantDue, State.issueRoom, Bool.and_eq_true, Bool.or_eq_true,
    decide_eq_true_iff, List.isEmpty_iff, and_assoc, and_congr_right_iff]
  intro _
  rw [Config.issueCapacity]
  by_cases claims : s.claims = []
  · simp only [claims, or_true, and_true]
    omega
  · simp only [claims, or_false, and_false]
    omega

theorem State.uPortGranted_iff (s : State) :
    s.uPortGranted = true ↔ s.issueQueue.length < 8 ∧ s.uPort ≠ .waiting := by
  rw [State.uPortGranted, Bool.and_eq_true, decide_eq_true_iff, State.issueRoom, decide_eq_true_iff,
    Config.issueCapacity]

theorem State.grantDue_of_ready {s : State} (ready : s.arrivalReady = true) : s.grantDue = false := by
  simp only [State.arrivalReady, Bool.and_eq_true, Bool.not_eq_true'] at ready
  exact ready.2

/-- A release takes at most one entry of the issue queue, and the U-port is not its business. -/
theorem State.releaseOne_spec (s : State) :
    s.releaseOne.uPort = s.uPort ∧ s.releaseOne.issueQueue.length ≤ s.issueQueue.length + 1 := by
  unfold State.releaseOne
  split
  · split
    · rw [State.join_eq]
      exact ⟨rfl, by simp⟩
    · exact ⟨rfl, Nat.le_succ _⟩
  · exact ⟨rfl, Nat.le_succ _⟩

/-! ## The obligations -/

/-- Settles O17: the grant, the taking and the release read the same counts of the issue queue. -/
theorem uPortTakesOnlyWhenGranted : Obligations.UPortTakesOnlyWhenGranted := by
  refine ⟨fun s => ⟨fun due => if_pos (s.grantDue_iff.2 due), fun notDue => if_neg (mt s.grantDue_iff.1 notDue)⟩,
    fun s ready => ⟨?_, fun refused x => ?_⟩, fun s settled => ⟨fun granted seven => ?_, fun granted few => ?_⟩⟩
  · have notDue := mt s.grantDue_iff.2 (Bool.eq_false_iff.1 (State.grantDue_of_ready ready))
    rw [State.uPortGranted_iff]
    by_cases waiting : s.uPort = .waiting <;>
      by_cases claimed : ∃ (before : List HeldEntry) (e : HeldEntry), EligibleAfter s before e <;>
        simp only [waiting, claimed, true_and, false_and, and_true, and_false, ne_eq, not_true_eq_false,
          not_false_eq_true, or_false, false_iff, not_and, not_not] at notDue ⊢
    all_goals omega
  · have arm : exec (.transactionTaken x) s = .next (s.beginTaking.takeRequest x) := rfl
    rw [arm, State.beginTaking_of_ready ready]
    exact congrArg Host.Outcome.next (if_neg (Bool.eq_false_iff.1 refused))
  · have noRoom : ¬ s.clearOut.releaseRoom = true := fun room =>
      (s.releaseRoom_iff.1 room).2 seven granted
    rw [exec_heldEntryRelease_of_settled settled]
    exact congrArg Host.Outcome.next (if_neg noRoom)
  · obtain ⟨port, length⟩ := s.clearOut.releaseOne_spec
    have port : s.clearOut.releaseOne.uPort = .granted := port.trans granted
    have room : s.clearOut.releaseOne.issueQueue.length < 8 := lt_of_le_of_lt length (Nat.succ_lt_succ few)
    exact ⟨_, exec_heldEntryRelease_of_settled settled, port, room,
      (State.uPortGranted_iff _).2 ⟨room, by simp [port]⟩⟩

/-- Settles O20: the deciding entry's action is the decision; a CURB also reports. -/
theorem rangeDenyAndCurbRefuse : Obligations.RangeDenyAndCurbRefuse := by
  intro s x n ready granted reaches
  refine ⟨fun decides => ?_, fun decides => ?_⟩
  · apply exec_transactionTaken_of_refusal ready granted
    rw [State.decideAdmission_of_decides reaches decides, Admission.refusal]
  · have decided := State.decideAdmission_of_decides reaches decides
    have acted := State.actOnDecision_of_rangeCurb (s := { s.clearOut with uPort := .none }) decided
    rw [exec_transactionTaken_of_granted ready granted, acted]
    rfl

/-- Settles O21: the transaction's own refusal is the first of the run of refusals of its isolation. -/
theorem rangeIsolateIsolatesAndFlushes : Obligations.RangeIsolateIsolatesAndFlushes := by
  intro s x n ready granted reaches decides
  have decided := State.decideAdmission_of_decides reaches decides
  obtain ⟨-, -, -, -, present, -⟩ := reaches
  have acted := State.actOnDecision_of_rangeIsolate (s := { s.clearOut with uPort := .none }) decided
  refine ⟨_, (exec_transactionTaken_of_granted ready granted).trans (congrArg _ acted), rfl, ?_, rfl, ?_, ?_, fun r => ?_⟩
  · simp
  · simp [State.withIncidents, LatchedCauses.withIsolation, IncidentLog.overflows_singleton]
  · rfl
  · refine (State.withRefusals_account_of_one (q := x.requester) (List.forall_mem_cons.2 ⟨rfl, fun t mem => ?_⟩) present r).trans ?_
    · obtain ⟨e, held, rfl⟩ := List.mem_map.1 mem
      exact of_decide_eq_true (List.mem_filter.1 held).2
    · rw [List.length_cons, List.length_map, Nat.add_comm, Account.refused_denied, BitVec.ofNat_add, ← BitVec.add_assoc]
      rfl

/-- Settles O22: the room decides; an entry held now has age 0, which is below every limit that expires. -/
theorem heldOrAnsweredRetry : Obligations.HeldOrAnsweredRetry := by
  intro s x ready granted reaches toBeHeld
  have decided := (State.decideAdmission_of_reachesHoldTest reaches).trans (State.decideHold_of_toBeHeld toBeHeld)
  refine ⟨fun below share => ⟨?_, ?_⟩, fun full => ?_⟩
  · rw [if_pos ⟨below, share⟩] at decided
    have held : ({ s.clearOut with uPort := .none } : State).actOnDecision x =
        { s.clearOut with hold := s.hold ++ [{ txn := x, age := 0 }], uPort := .none } := by
      have decided : ({ s.clearOut with uPort := .none } : State).decideAdmission x = .hold := decided
      rw [State.actOnDecision, decided]
      rfl
    rw [exec_transactionTaken_of_granted ready granted, held]
  · obtain ⟨u, taken, -, hold, -⟩ := holdExpiryAnswersRetry
      { s.clearOut with hold := s.hold ++ [{ txn := x, age := 0 }], uPort := .none }
    refine ⟨u, taken, hold.trans ?_⟩
    have young : (decide (s.active.global.holdAgeLimit = 0) || decide (0 < s.active.global.holdAgeLimit)) = true := by
      simp only [Bool.or_eq_true, decide_eq_true_iff]
      omega
    rw [List.filter_append]
    exact congrArg _ (List.filter_cons_of_pos young)
  · rw [if_neg (by omega)] at decided
    apply exec_transactionTaken_of_silent_refusal ready granted
    rw [decided, Admission.refusal]

/-- Settles O23: what is not to be held joins the issue queue. -/
theorem forwardedWhenNotHeld : Obligations.ForwardedWhenNotHeld := by
  intro s x ready granted reaches notHeld
  have decided : ({ s.clearOut with uPort := .none } : State).decideAdmission x = .forward :=
    (State.decideAdmission_of_reachesHoldTest reaches).trans (State.decideHold_of_not_toBeHeld notHeld)
  have joined : ({ s.clearOut with uPort := .none } : State).actOnDecision x =
      { s.clearOut.withJoined x with uPort := .none } := by
    rw [State.actOnDecision, decided]
    exact State.join_eq _ x
  rw [exec_transactionTaken_of_granted ready granted, joined]

end Sys2Proof.Machine
end

section
/-! PROOFS. The read-outs of the management link (chapter 10): the identity, the status, the slots, the configuration and
the held entries, each byte by byte. -/

namespace Sys2Proof.Machine

/-! ## The commands of the management link as transfers -/

section
variable (s : State) (seq : Byte)

theorem exec_getIdentity : exec (.getIdentity seq) s = .next (s.run seq 0x01 0 actGetIdentity) := rfl
theorem exec_readStatus : exec (.readStatus seq) s = .next (s.run seq 0x02 0 actReadStatus) := rfl
theorem exec_readGlobal (copy : Byte) :
    exec (.readGlobal seq copy) s = .next (s.run seq 0x10 1 (actReadGlobal copy)) := rfl
theorem exec_writeGlobal (block : List Byte) :
    exec (.writeGlobal seq block) s = .next (s.run seq 0x11 block.length (actWriteGlobal block)) := rfl
theorem exec_readRequester (index copy : Byte) :
    exec (.readRequester seq index copy) s = .next (s.run seq 0x12 2 (actReadRequester index copy)) := rfl
theorem exec_writeRequester (index : Byte) (block : List Byte) : exec (.writeRequester seq index block) s =
    .next (s.run seq 0x13 (1 + block.length) (actWriteRequester index block)) := rfl
theorem exec_readRange (index copy : Byte) :
    exec (.readRange seq index copy) s = .next (s.run seq 0x14 2 (actReadRange index copy)) := rfl
theorem exec_writeRange (index : Byte) (block : List Byte) : exec (.writeRange seq index block) s =
    .next (s.run seq 0x15 (1 + block.length) (actWriteRange index block)) := rfl
theorem exec_commit (mode : Byte) :
    exec (.commit seq mode) s = .next (s.run seq 0x20 1 (actCommit mode)) := rfl
theorem exec_restart : exec (.restart seq) s = .next (s.run seq 0x22 0 actRestart) := rfl
theorem exec_isolate (index : Byte) :
    exec (.isolate seq index) s = .next (s.run seq 0x30 1 (actIsolate index)) := rfl
theorem exec_readHold (index : Byte) :
    exec (.readHold seq index) s = .next (s.run seq 0x40 1 (actReadHold index)) := rfl
theorem exec_readSlots : exec (.readSlots seq) s = .next (s.run seq 0x41 0 actReadSlots) := rfl
theorem exec_readLog (count : Byte) :
    exec (.readLog seq count) s = .next (s.run seq 0x42 1 (actReadLog count)) := rfl
theorem exec_setAlertMask (set : Byte) :
    exec (.setAlertMask seq set) s = .next (s.run seq 0x50 1 (actSetAlertMask set)) := rfl
theorem exec_ackAlert (set : Byte) :
    exec (.ackAlert seq set) s = .next (s.run seq 0x51 1 (actAckAlert set)) := rfl

end

/-! ## A transfer that reads -/

/-- A command that is answered and changes nothing leaves the part with the answer in the store. -/
theorem State.run_of_answered {s : State} {act : State → CommandResult} {bytes : List Byte} (ready : s.linkReady = true)
    (seq code : Byte) (p : Nat) (h : act s.clearOut = answered s.clearOut bytes) :
    s.run seq code p act = s.clearOut.withAnswer seq code (6 + p) .done bytes :=
  State.run_of_result ready seq code p h rfl

/-- A command that is refused changes nothing but the answer store (R177). -/
theorem State.run_of_refused {s : State} {act : State → CommandResult} {st : Status} (ready : s.linkReady = true)
    (seq code : Byte) (p : Nat) (h : act s.clearOut = refusedWith s.clearOut st) :
    s.run seq code p act = s.clearOut.withAnswer seq code (6 + p) st [] :=
  State.run_of_result ready seq code p h rfl

/-! ## Bytes -/

/-- Runs of bytes of one length: each stands at its own multiple of that length. -/
theorem take_drop_flatMap {α β : Type} {f : α → List β} {n : Nat} (length : ∀ x, (f x).length = n) (l : List α) (k : Nat)
    (h : k < l.length) : ((l.flatMap f).drop (n * k)).take n = f l[k] := by
  induction l generalizing k with
  | nil => exact absurd h (Nat.not_lt_zero k)
  | cons x l ih =>
    rw [List.flatMap_cons]
    cases k with
    | zero => rw [Nat.mul_zero, List.drop_zero, List.take_left' (length x), List.getElem_cons_zero]
    | succ k =>
      rw [Nat.mul_succ, Nat.add_comm, ← List.drop_drop, List.drop_left' (length x), List.getElem_cons_succ]
      exact ih k (Nat.lt_of_succ_lt_succ h)

theorem length_flatMap_of_length {α β : Type} {f : α → List β} {n : Nat} (length : ∀ x, (f x).length = n) (l : List α) :
    (l.flatMap f).length = l.length * n := by
  simp [List.length_flatMap, length]

theorem Slot.layout_length (x : Slot) : x.layout.length = 15 := by cases x <;> rfl

/-- The byte of a set of causes has bit n for cause n (R190). -/
theorem AlertSet.byte_eq (a : AlertSet) : a.byte = BitVec.ofNat 8
    ([a.isolation, a.quarantine, a.commitDone, a.commitFailed, a.restartDone, a.logLost, a.logPending].foldr
      (fun c n => c.toNat + 2 * n) 0) := by
  rw [AlertSet.byte]
  congr 1
  simp only [List.foldr_cons, List.foldr_nil]
  omega

/-- A 4-byte two's-complement value, most significant byte first (R189). -/
theorem balanceBytes_eq (b : Int) : balanceBytes b =
    [BitVec.ofInt 8 (b / 16777216), BitVec.ofInt 8 (b / 65536), BitVec.ofInt 8 (b / 256), BitVec.ofInt 8 b] := by
  have bytes (n : Nat) : beBytes 4 n =
      [BitVec.ofNat 8 (n / 256 / 256 / 256), BitVec.ofNat 8 (n / 256 / 256), BitVec.ofNat 8 (n / 256), BitVec.ofNat 8 n] := rfl
  rw [balanceBytes, bytes]
  simp only [List.cons.injEq, and_true]
  refine ⟨?_, ?_, ?_, ?_⟩ <;> apply BitVec.eq_of_toNat_eq <;> simp only [BitVec.toNat_ofNat, BitVec.toNat_ofInt] <;> omega

/-! ## Numbers and selectors -/

theorem copyOfByte_eq_none {copy : Byte} (h : 1 < copy.toNat) : copyOfByte copy = none := by
  have notZero : copy ≠ 0 := fun k => by simp [k] at h
  have notOne : copy ≠ 1 := fun k => by simp [k] at h
  rw [copyOfByte, if_neg notZero, if_neg notOne]

theorem rangeOfByte_eq_none {index : Byte} (h : 15 < index.toNat) : rangeOfByte index = none :=
  dif_neg (by omega)

theorem rangeOfByte_eq_some {index : Byte} {n : RangeId} (h : index.toNat = n.val) : rangeOfByte index = some n := by
  have below : index.toNat < 16 := h ▸ n.isLt
  rw [rangeOfByte, dif_pos below]
  exact congrArg some (Fin.ext h)

/-! ## The status -/

theorem RestartState.byte_eq (x : RestartState) : x.byte = if x = .idle then 0 else 1 := by cases x <;> rfl

theorem Mode.byte_eq (m : Mode) : m.byte = if m = .regulating then 1 else 0 := by cases m <;> rfl

theorem CommitState.byte_eq (x : CommitState) : x.byte = match x with
    | .idle => 0
    | .armed _ => 1
    | .draining _ _ => 2 := by cases x <;> rfl

theorem CommitOutcome.byte_eq (x : CommitOutcome) : x.byte = match x with
    | .none => 0
    | .applied => 1
    | .cancelled => 2
    | .abandoned => 3
    | .cancelledByRestart => 4 := by cases x <;> rfl

/-! ## The configuration and the held entries -/

theorem Standing.byte_eq (x : Standing) : x.byte = match x with
    | .free => 0
    | .curbed => 1
    | .isolated => 2 := by cases x <;> rfl

/-- The index is looked at first (R181). -/
theorem actReadRequester_of_no_requester {index : Byte} (above : 31 < index.toNat) (copy : Byte) (s : State) :
    actReadRequester index copy s = refusedWith s .badIndex := by
  rw [actReadRequester, requesterOfByte_eq_none above]

/-- For a requester the selector decides (R181). -/
theorem actReadRequester_of_requester {index : Byte} {r : RequesterId} (named : index.toNat = r.val) (copy : Byte) (s : State) :
    actReadRequester index copy s = match copyOfByte copy with
      | none => refusedWith s .badValue
      | some c => answered s (s.requesterBytes r c) := by
  rw [actReadRequester, requesterOfByte_eq_some named] <;> rfl

theorem actReadRange_of_no_range {index : Byte} (above : 15 < index.toNat) (copy : Byte) (s : State) :
    actReadRange index copy s = refusedWith s .badIndex := by
  rw [actReadRange, rangeOfByte_eq_none above]

theorem actReadRange_of_range {index : Byte} {n : RangeId} (named : index.toNat = n.val) (copy : Byte) (s : State) :
    actReadRange index copy s = match copyOfByte copy with
      | none => refusedWith s .badValue
      | some c => answered s ((s.copy c).ranges[n]).layout := by
  rw [actReadRange, rangeOfByte_eq_some named]
  simp only [RangeEntry.bytes_eq_layout] <;> rfl

/-- The dynamic state, byte by byte (R191). -/
theorem dynamicBytes_eq (a : Account) (x : Restraint) (held : Nat) : dynamicBytes a x held =
    [BitVec.ofInt 8 (a.balance / 16777216), BitVec.ofInt 8 (a.balance / 65536), BitVec.ofInt 8 (a.balance / 256),
      BitVec.ofInt 8 a.balance] ++
    [match x.standing with
      | .free => 0
      | .curbed => 1
      | .isolated => 2, BitVec.ofNat 8 x.strikes, if x.curbHit then 1 else 0, BitVec.ofNat 8 held] ++
    twoBytes a.beatsThis ++ twoBytes a.beatsLast ++ twoBytes a.retryCount.toNat ++ twoBytes a.deniedCount.toNat := by
  simp only [dynamicBytes, balanceBytes_eq, Standing.byte_eq, beBytes_one, beBytes_two, boolByte_eq, List.append_assoc,
    List.cons_append, List.nil_append]

theorem State.heldCount_eq (s : State) (r : RequesterId) :
    s.heldCount r = s.hold.countP fun e => decide (e.txn.requester = r) := List.countP_eq_length_filter.symm

/-- With the active copy the dynamic state follows the entry (R181). -/
theorem State.requesterBytes_active (s : State) (r : RequesterId) : s.requesterBytes r .active =
    (s.active.requesters[r]).layout ++ dynamicBytes (s.account r) (s.restraint r) (s.heldCount r) := by
  rw [State.requesterBytes, RequesterEntry.bytes_eq_layout]
  rfl

theorem State.requesterBytes_staged (s : State) (r : RequesterId) :
    s.requesterBytes r .staged = (s.staged.requesters[r]).layout := by
  rw [State.requesterBytes, RequesterEntry.bytes_eq_layout]
  exact List.append_nil _

theorem HeldEntry.bytes_eq (e : HeldEntry) : e.bytes =
    [e.txn.tag, if e.txn.kind = .read then 1 else 2, BitVec.ofNat 8 e.txn.length.val, BitVec.ofNat 8 e.age] := by
  rw [HeldEntry.bytes, beBytes_one, beBytes_one, kindByte_eq]
  rfl

/-! ## The obligations -/

/-- Settles O34: every byte is read off the part as it stands. -/
theorem identityStatusAndSlotsAreRead : Obligations.IdentityStatusAndSlotsAreRead := by
  intro s seq ready
  rw [exec_getIdentity, exec_readStatus, exec_readSlots,
    State.run_of_answered (act := actGetIdentity) ready seq 0x01 0 rfl,
    State.run_of_answered (act := actReadStatus) ready seq 0x02 0 rfl,
    State.run_of_answered (act := actReadSlots) ready seq 0x41 0 rfl]
  have length : ∀ i : SlotId, ((s.slot i).bytes).length = 15 := fun i => by
    rw [Slot.bytes_eq_layout, Slot.layout_length]
  refine ⟨rfl, rfl, ?_, _, rfl, (length_flatMap_of_length length (List.finRange 16)).trans rfl, fun i => ?_⟩
  · simp only [State.statusBytes, Mode.byte_eq, RestartState.byte_eq, beBytes_one, beBytes_two, AlertSet.byte_eq,
      State.slotCount_eq, List.append_assoc, List.cons_append, List.nil_append, CommitState.byte_eq, CommitOutcome.byte_eq]
    rfl
  · have read := take_drop_flatMap length (List.finRange 16) i.val (by simp)
    rw [List.getElem_finRange, Slot.bytes_eq_layout] at read
    exact read

/-- Settles O35: the index is looked at before the selector. -/
theorem configurationIsRead : Obligations.ConfigurationIsRead := by
  intro s seq index copy ready
  have global (c : Copy) (copy : Byte) (named : copyOfByte copy = some c) :
      actReadGlobal copy s.clearOut = answered s.clearOut (s.copy c).global.layout := by
    rw [actReadGlobal, named, ← GlobalBlock.bytes_eq_layout]
    rfl
  simp only [exec_readGlobal, exec_readRequester, exec_readRange, Host.Outcome.next.injEq]
  refine ⟨State.run_of_answered ready seq 0x10 1 (global .staged 0 rfl),
    State.run_of_answered ready seq 0x10 1 (global .active 1 rfl), fun above => State.run_of_refused ready seq 0x10 1 ?_,
    fun r named => ?_, fun above => State.run_of_refused ready seq 0x12 2 (actReadRequester_of_no_requester above copy _),
    fun n named => ?_, fun above => State.run_of_refused ready seq 0x14 2 (actReadRange_of_no_range above copy _)⟩
  · rw [actReadGlobal, copyOfByte_eq_none above]
  · have action := actReadRequester_of_requester named
    refine ⟨State.run_of_answered ready seq 0x12 2 ((action 0 _).trans ?_),
      State.run_of_answered ready seq 0x12 2 ((action 1 _).trans ?_), fun above => State.run_of_refused ready seq 0x12 2 ?_⟩
    · exact congrArg (answered s.clearOut) (State.requesterBytes_staged _ r)
    · refine congrArg (answered s.clearOut) ((State.requesterBytes_active s.clearOut r).trans ?_)
      rw [dynamicBytes_eq, State.heldCount_eq]
      simp only [List.append_assoc]
      rfl
    · rw [action, copyOfByte_eq_none above]
  · have action := actReadRange_of_range named
    refine ⟨State.run_of_answered ready seq 0x14 2 (action 0 _), State.run_of_answered ready seq 0x14 2 (action 1 _),
      fun above => State.run_of_refused ready seq 0x14 2 ?_⟩
    rw [action, copyOfByte_eq_none above]

/-- Settles O36: the entries of the requester in list order, whether it is present or not. -/
theorem heldEntriesAreRead : Obligations.HeldEntriesAreRead := by
  intro s seq index ready
  simp only [exec_readHold, Host.Outcome.next.injEq]
  refine ⟨fun r named => State.run_of_answered ready seq 0x40 1 ?_, fun above => State.run_of_refused ready seq 0x40 1 ?_⟩
  · rw [actReadHold, requesterOfByte_eq_some named]
    simp only [funext HeldEntry.bytes_eq]
    rfl
  · rw [actReadHold, requesterOfByte_eq_none above]

end Sys2Proof.Machine
end

section
/-! PROOFS. The management commands that write (chapter 10): the staged configuration, COMMIT, RESTART, ISOLATE, the log and
the alerts. -/

namespace Sys2Proof.Machine

/-! ## The staged writes (R142, R182) -/

/-- What a staged write with a block of its length comes to: FROZEN, then BAD_VALUE, then the whole part written. -/
def stagedWrite {α : Type} (s : State) (value : Option α) (put : α → Configuration) : CommandResult :=
  if s.frozen then refusedWith s .frozen
  else match value with
    | none => refusedWith s .badValue
    | some x => acted { s with staged := put x }

theorem actWriteGlobal_eq {block : List Byte} (length : block.length = 13) (s : State) :
    actWriteGlobal block s = stagedWrite s (globalOfBytes block) fun g => { s.staged with global := g } := by
  rw [actWriteGlobal, if_neg (not_not.2 length)]
  cases globalOfBytes block <;> rfl

theorem actWriteRequester_of_no_requester {index : Byte} {block : List Byte} (length : block.length = 10)
    (above : 31 < index.toNat) (s : State) : actWriteRequester index block s = refusedWith s .badIndex := by
  rw [actWriteRequester, if_neg (not_not.2 length), requesterOfByte_eq_none above]

theorem actWriteRequester_eq {index : Byte} {block : List Byte} {r : RequesterId} (length : block.length = 10)
    (named : index.toNat = r.val) (s : State) : actWriteRequester index block s =
      stagedWrite s (requesterEntryOfBytes block) fun e =>
        { s.staged with requesters := Table.put s.staged.requesters r e } := by
  rw [actWriteRequester, if_neg (not_not.2 length), requesterOfByte_eq_some named]
  cases requesterEntryOfBytes block <;> rfl

theorem actWriteRange_of_no_range {index : Byte} {block : List Byte} (length : block.length = 14)
    (above : 15 < index.toNat) (s : State) : actWriteRange index block s = refusedWith s .badIndex := by
  rw [actWriteRange, if_neg (not_not.2 length), rangeOfByte_eq_none above]

theorem actWriteRange_eq {index : Byte} {block : List Byte} {n : RangeId} (length : block.length = 14)
    (named : index.toNat = n.val) (s : State) : actWriteRange index block s =
      stagedWrite s (rangeEntryOfBytes block) fun e => { s.staged with ranges := Table.put s.staged.ranges n e } := by
  rw [actWriteRange, if_neg (not_not.2 length), rangeOfByte_eq_some named]
  cases rangeEntryOfBytes block <;> rfl

/-- The three ends of a staged write, as transfers. -/
theorem State.run_stagedWrite {α : Type} {s : State} {act : State → CommandResult} {value : Option α}
    {put : α → Configuration} (ready : s.linkReady = true) (seq code : Byte) (p : Nat)
    (h : act s.clearOut = stagedWrite s.clearOut value put) :
    (s.commit.state ≠ .idle → s.run seq code p act = s.clearOut.withAnswer seq code (6 + p) .frozen []) ∧
    (s.commit.state = .idle → value = none → s.run seq code p act = s.clearOut.withAnswer seq code (6 + p) .badValue []) ∧
    ∀ x, s.commit.state = .idle → value = some x →
      s.run seq code p act = { s.clearOut.withAnswer seq code (6 + p) .done [] with staged := put x } := by
  have unfrozen (idle : s.commit.state = .idle) : ¬ s.clearOut.frozen = true := fun frozen => s.frozen_iff.1 frozen idle
  refine ⟨fun waiting => ?_, fun idle none => ?_, fun x idle some => ?_⟩
  · exact State.run_of_refused ready seq code p (h.trans (if_pos (s.frozen_iff.2 waiting)))
  · refine State.run_of_refused ready seq code p (h.trans ((if_neg (unfrozen idle)).trans ?_))
    rw [none]
  · refine State.run_of_result (result := acted { s.clearOut with staged := put x }) ready seq code p
      (h.trans ((if_neg (unfrozen idle)).trans ?_)) rfl
    rw [some]

/-! ## The checks of COMMIT (R145) -/

/-- The first number that meets a test. -/
theorem find?_finRange {n : Nat} {p : Fin n → Bool} {i : Fin n} (hit : p i = true) (first : ∀ j < i, p j = false) :
    (List.finRange n).find? p = some i := by
  refine List.find?_eq_some_iff_getElem.2 ⟨hit, i.val, by simp, by simp, fun k below => ?_⟩
  simpa using first ⟨k, below.trans i.isLt⟩ below

theorem Configuration.firstBadItem_of_global {c : Configuration} (bad : c.global.commitOk = false) :
    c.firstBadItem = some .global := if_neg (by simp [bad])

theorem Configuration.firstBadItem_of_requester {c : Configuration} {r : RequesterId} (global : c.global.commitOk = true)
    (bad : (c.requesters[r]).commitOk = false) (first : ∀ q < r, (c.requesters[q]).commitOk = true) :
    c.firstBadItem = some (.requester r) := by
  rw [Configuration.firstBadItem, if_pos global, find?_finRange (i := r) (by simp only [bad, Bool.not_false])
    fun q below => by simp only [first q below, Bool.not_true]]

theorem requesters_find?_none {c : Configuration} (all : ∀ r : RequesterId, (c.requesters[r]).commitOk = true) :
    (List.finRange 32).find? (fun r => !(c.requesters[r]).commitOk) = none :=
  List.find?_eq_none.2 fun r _ => by simp only [all r, Bool.not_true, Bool.false_eq_true, not_false_eq_true]

theorem Configuration.firstBadItem_of_range {c : Configuration} {n : RangeId} (global : c.global.commitOk = true)
    (requesters : ∀ r : RequesterId, (c.requesters[r]).commitOk = true) (bad : (c.ranges[n]).commitOk = false)
    (first : ∀ m < n, (c.ranges[m]).commitOk = true) : c.firstBadItem = some (.range n) := by
  rw [Configuration.firstBadItem, if_pos global, requesters_find?_none requesters,
    find?_finRange (i := n) (by simp only [bad, Bool.not_false]) fun m below => by simp only [first m below, Bool.not_true]]

/-- Nothing fails exactly when every item passes its check. -/
theorem Configuration.firstBadItem_eq_none_iff (c : Configuration) : c.firstBadItem = none ↔ c.commitOk := by
  constructor
  · intro none
    have global : c.global.commitOk = true := by
      by_contra bad
      rw [c.firstBadItem_of_global (Bool.eq_false_iff.2 bad)] at none
      exact Option.some_ne_none _ none
    rw [Configuration.firstBadItem, if_pos global] at none
    cases requesters : (List.finRange 32).find? fun r => !(c.requesters[r]).commitOk with
    | some r => rw [requesters] at none; exact absurd none (Option.some_ne_none _)
    | none =>
      rw [requesters] at none
      cases ranges : (List.finRange 16).find? fun n => !(c.ranges[n]).commitOk with
      | some n => rw [ranges] at none; exact absurd none (Option.some_ne_none _)
      | none =>
        rw [List.find?_eq_none] at requesters ranges
        exact ⟨global, fun r => by simpa using requesters r (List.mem_finRange r),
          fun n => by simpa using ranges n (List.mem_finRange n)⟩
  · rintro ⟨global, requesters, ranges⟩
    rw [Configuration.firstBadItem, if_pos global, requesters_find?_none requesters, List.find?_eq_none.2]
    intro n _
    simp only [ranges n, Bool.not_true, Bool.false_eq_true, not_false_eq_true]

theorem actCommit_of_busy {s : State} (busy : s.commit.state ≠ .idle ∨ s.restart ≠ .idle) (mode : Byte) :
    actCommit mode s = refusedWith s .busy := by
  refine if_pos ?_
  rw [Bool.or_eq_true, State.frozen_iff, decide_eq_true_iff]
  exact busy

theorem actCommit_of_idle {s : State} (idle : s.commit.state = .idle) (restart : s.restart = .idle) (mode : Byte) :
    actCommit mode s = match commitModeOfByte mode with
      | none => refusedWith s .badValue
      | some m =>
        match s.staged.firstBadItem with
        | some item => { status := .badConfig, results := item.bytes, state := s }
        | none =>
          { status := .accepted, results := [], state := { s with commit := { s.commit with state := .armed m } } } := by
  refine if_neg ?_
  rw [Bool.or_eq_true, State.frozen_iff, decide_eq_true_iff]
  simp [idle, restart]

theorem commitModeOfByte_eq_none {mode : Byte} (h : 1 < mode.toNat) : commitModeOfByte mode = none := by
  have notZero : mode ≠ 0 := fun k => by simp [k] at h
  have notOne : mode ≠ 1 := fun k => by simp [k] at h
  rw [commitModeOfByte, if_neg notZero, if_neg notOne]

theorem commitModeOfByte_eq_some {mode : Byte} (h : mode.toNat ≤ 1) :
    commitModeOfByte mode = some (if mode.toNat = 0 then .boundary else .drained) := by
  by_cases zero : mode.toNat = 0
  · have same : mode = 0 := BitVec.eq_of_toNat_eq zero
    rw [same]
    rfl
  · have same : mode = 1 := BitVec.eq_of_toNat_eq (by simp; omega)
    rw [same]
    rfl

/-! ## RESTART (R155) -/

theorem Account.refused_retry (a : Account) (n : Nat) :
    a.refused .retry n = { a with retryCount := a.retryCount + BitVec.ofNat 16 n } := rfl

theorem State.dropCommit_eq (s : State) (o : CommitOutcome) :
    s.dropCommit o = { s with commit := if s.commit.state = .idle then s.commit else
      { state := .idle, pause := false, outcome := o, outcomeWindow := s.timer.windowNumber } } := by
  by_cases idle : s.commit.state = .idle
  · rw [State.dropCommit_of_idle idle, if_pos idle]
  · rw [State.dropCommit_of_not_idle idle, if_neg idle]

/-- The start of a restart refuses every held entry (R62). -/
theorem State.startRestart_eq (s : State) :
    s.startRestart = { s with
      commit := if s.commit.state = CommitState.idle then s.commit else
        { state := .idle, pause := false, outcome := .cancelledByRestart, outcomeWindow := s.timer.windowNumber }
      restart := .draining 0 s.active.global.drainLimit
      hold := [] }.withRefusals (s.hold.map HeldEntry.txn) .retry := by
  rw [State.startRestart, State.flush_eq _ _ _ (Or.inl rfl), State.dropCommit_eq]
  simp

/-- With work in flight the drain is not complete at the start (R156). -/
theorem actRestart_of_inFlight {s : State} (idle : s.restart = .idle)
    (inFlight : s.issueQueue ≠ [] ∨ ∃ (i : SlotId) (q : SlotRecord), s.slot i = .issued q) :
    actRestart s = { status := .accepted, results := [], state := s.startRestart } := by
  have undrained : s.startRestart.drained = false := Bool.eq_false_iff.2 fun drained => by
    rw [State.drained_iff, State.startRestart_eq] at drained
    obtain ⟨empty, noneIssued⟩ := drained
    rcases inFlight with queued | ⟨i, q, issued⟩
    · exact queued empty
    · have : (s.slot i).isIssued = false := noneIssued i
      rw [issued] at this
      exact Bool.false_ne_true this.symm
  rw [actRestart, if_neg (not_not.2 idle), State.takeNormalEnd, undrained]
  simp

/-! ## ISOLATE (R86) -/

theorem actIsolate_of_no_requester {index : Byte} (above : 31 < index.toNat) (s : State) :
    actIsolate index s = refusedWith s .badIndex := by
  rw [actIsolate, requesterOfByte_eq_none above]

theorem actIsolate_of_requester {index : Byte} {r : RequesterId} (named : index.toNat = r.val) (s : State) :
    actIsolate index s = if (s.entry r).present then acted ((s.isolate r).record (.managedIsolate r))
      else refusedWith s .notPresent := by
  rw [actIsolate, requesterOfByte_eq_some named]

/-! ## Sets of causes (R190) -/

/-- The set a byte names by its bits. -/
def alertSetOf (b : Byte) : AlertSet :=
  { isolation := b.getLsbD 0, quarantine := b.getLsbD 1, commitDone := b.getLsbD 2, commitFailed := b.getLsbD 3,
    restartDone := b.getLsbD 4, logLost := b.getLsbD 5, logPending := b.getLsbD 6 }

theorem alertSetOfByte_eq_some {b : Byte} (clear : b.getLsbD 7 = false) : alertSetOfByte b = some (alertSetOf b) :=
  if_neg (Bool.eq_false_iff.1 clear)

theorem alertSetOf_byte : ∀ b : Byte, b.getLsbD 7 = false → (alertSetOf b).byte = b := by decide

/-! ## The obligations -/

/-- Settles O37: each of the three writes is a staged write after its index. -/
theorem stagedWritesReplaceWholeParts : Obligations.StagedWritesReplaceWholeParts := by
  intro s seq index block ready
  simp only [exec_writeGlobal, exec_writeRequester, exec_writeRange, Host.Outcome.next.injEq]
  refine ⟨fun length => ?_, fun length => ⟨fun above => ?_, fun r named => ?_⟩, fun length => ⟨fun above => ?_, fun n named => ?_⟩⟩
  · rw [length]
    exact State.run_stagedWrite ready seq 0x11 13 (actWriteGlobal_eq length _)
  · rw [length]
    exact State.run_of_refused ready seq 0x13 11 (actWriteRequester_of_no_requester length above _)
  · rw [length]
    exact State.run_stagedWrite ready seq 0x13 11 (actWriteRequester_eq length named _)
  · rw [length]
    exact State.run_of_refused ready seq 0x15 15 (actWriteRange_of_no_range length above _)
  · rw [length]
    exact State.run_stagedWrite ready seq 0x15 15 (actWriteRange_eq length named _)

/-- Settles O39: the first item that fails is the one the answer names; when none fails the commit is ARMED. -/
theorem commitIsDecidedInOrder : Obligations.CommitIsDecidedInOrder := by
  intro s seq mode ready
  simp only [exec_commit, Host.Outcome.next.injEq]
  refine ⟨fun busy => State.run_of_refused ready seq 0x20 1 (actCommit_of_busy (s := s.clearOut) busy mode),
    fun idle restart => ?_⟩
  have action := actCommit_of_idle (s := s.clearOut) idle restart mode
  refine ⟨fun above => State.run_of_refused ready seq 0x20 1 ?_, fun below => ?_⟩
  · rw [action, commitModeOfByte_eq_none above]
  rw [commitModeOfByte_eq_some below] at action
  have failing {item : ConfigItem} (bad : s.staged.firstBadItem = some item) :
      s.run seq 0x20 1 (actCommit mode) = s.clearOut.withAnswer seq 0x20 7 .badConfig item.bytes := by
    refine State.run_of_result ready seq 0x20 1
      (result := { status := .badConfig, results := item.bytes, state := s.clearOut }) (action.trans ?_) rfl
    rw [State.clearOut_staged, bad]
  refine ⟨fun bad => failing (Configuration.firstBadItem_of_global bad),
    fun global r bad first => failing (Configuration.firstBadItem_of_requester global bad first),
    fun global requesters n bad first => failing (Configuration.firstBadItem_of_range global requesters bad first),
    fun ok => ?_⟩
  have none := s.staged.firstBadItem_eq_none_iff.2 ok
  refine State.run_of_result ready seq 0x20 1 (result := { status := .accepted, results := [], state := { s.clearOut with
    commit := { s.commit with state := .armed (if mode.toNat = 0 then .boundary else .drained) } } }) (action.trans ?_) rfl
  rw [State.clearOut_staged, none]
  rfl

/-- Settles O41: with work in flight the drain is not complete, so the restart's start is all that happens. -/
theorem restartStartsItsDrain : Obligations.RestartStartsItsDrain := by
  intro s seq ready
  simp only [exec_restart, Host.Outcome.next.injEq]
  refine ⟨fun busy => State.run_of_refused ready seq 0x22 0 (if_pos busy), fun idle inFlight => ?_⟩
  have action := actRestart_of_inFlight (s := s.clearOut) idle inFlight
  have run := State.run_eq_withAnswer (act := actRestart) ready seq 0x22 0 (by rw [action, State.startRestart_eq]; rfl)
  rw [action, State.startRestart_eq] at run
  refine ⟨_, run, rfl, rfl, congrArg (Outputs.mk · [] _) ?_, fun r => ?_⟩
  · exact List.map_map
  · refine (State.withRefusals_account _ _ _ r).trans ?_
    rw [List.countP_map, Account.refused_retry, State.heldCount_eq]
    rfl

/-- Settles O44: the number, the presence, and the isolation with its incident. -/
theorem isolateCommandIsolatesPresentRequesters : Obligations.IsolateCommandIsolatesPresentRequesters := by
  intro s seq index ready
  simp only [exec_isolate, Host.Outcome.next.injEq]
  refine ⟨fun above => State.run_of_refused ready seq 0x30 1 (actIsolate_of_no_requester above _), fun r named => ?_⟩
  have action := actIsolate_of_requester named s.clearOut
  refine ⟨fun absent => State.run_of_refused ready seq 0x30 1 (action.trans (if_neg (Bool.eq_false_iff.1 absent))),
    fun present => ?_⟩
  have action := action.trans (if_pos present)
  rw [State.isolate_eq, State.record_eq] at action
  have run := State.run_eq_withAnswer (act := actIsolate index) ready seq 0x30 1 (by rw [action]; rfl)
  rw [action] at run
  refine ⟨_, run, rfl, ?_, rfl, ?_, congrArg (Outputs.mk · [] _) List.map_map, fun q => ?_⟩
  · simp [acted]
  · simp [acted, State.withIncidents, LatchedCauses.withIsolation, IncidentLog.overflows_singleton]
  · refine (State.withRefusals_account_of_one (q := r) (fun t mem => ?_) present q).trans ?_
    · obtain ⟨e, held, rfl⟩ := List.mem_map.1 mem
      exact of_decide_eq_true (List.mem_filter.1 held).2
    · rw [List.length_map, Account.refused_denied]
      rfl

/-- Settles O46: a count of 1 to 4 takes that many of the oldest records, laid out one after another. -/
theorem readLogRemovesOldestRecords : Obligations.ReadLogRemovesOldestRecords := by
  intro s seq count ready
  simp only [exec_readLog, Host.Outcome.next.injEq]
  refine ⟨fun outside => State.run_of_refused ready seq 0x42 1 (if_neg (by omega)), fun low high => ?_⟩
  refine State.run_of_result (result := { status := .done, results := _, state := { s.clearOut with log :=
    { records := s.log.records.drop count.toNat, nextSeq := s.log.nextSeq, lost := 0 } } }) ready seq 0x42 1
    ((if_pos ⟨low, high⟩).trans ?_) rfl
  rw [← funext IncidentRecord.bytes_eq_layout]
  simp only [beBytes_one, List.append_assoc]
  rfl

/-- Settles O47: bit 7 names no cause; the other bits are the set. -/
theorem alertMaskAndAcknowledgement : Obligations.AlertMaskAndAcknowledgement := by
  intro s seq set ready
  simp only [exec_setAlertMask, exec_ackAlert, Host.Outcome.next.injEq]
  refine ⟨fun seven => ⟨State.run_of_refused ready seq 0x50 1 ?_, State.run_of_refused ready seq 0x51 1 ?_⟩, fun clear => ⟨?_, ?_⟩⟩
  · rw [actSetAlertMask, alertSetOfByte, if_pos seven]
  · rw [actAckAlert, alertSetOfByte, if_pos seven]
  · refine ⟨_, State.run_of_result (result := acted { s.clearOut with mask := alertSetOf set }) ready seq 0x50 1 ?_ rfl, rfl,
      alertSetOf_byte set clear⟩
    rw [actSetAlertMask, alertSetOfByte_eq_some clear]
  · refine ⟨_, State.run_of_result (result := answered { s.clearOut with latched := s.latched.acknowledge (alertSetOf set) }
      [({ s with latched := s.latched.acknowledge (alertSetOf set) } : State).pendingCauses.byte])
      ready seq 0x51 1 ?_ rfl, rfl, rfl, rfl⟩
    rw [actAckAlert, alertSetOfByte_eq_some clear]
    rfl

end Sys2Proof.Machine
end

section
/-! PROOFS. Frames and blocks (chapters 10 and 11): which runs of bytes are a configuration block, which frames pass the
checks, and what the transfers that bring them come to. -/

namespace Sys2Proof.Machine

/-! ## Values in bytes (R189) -/

theorem ofBeBytes_two (a b : Byte) : ofBeBytes [a, b] = a.toNat * 256 + b.toNat := by
  simp [ofBeBytes]

theorem twoBytes_ofBeBytes (a b : Byte) : twoBytes (ofBeBytes [a, b]) = [a, b] := by
  rw [ofBeBytes_two, twoBytes]
  congr 1
  · apply BitVec.eq_of_toNat_eq
    rw [BitVec.toNat_ofNat]
    omega
  · congr 1
    apply BitVec.eq_of_toNat_eq
    rw [BitVec.toNat_ofNat]
    omega

theorem ofBeBytes_twoBytes {n : Nat} (h : n ≤ 65535) : ofBeBytes (twoBytes n) = n := by
  rw [twoBytes, ofBeBytes_two, BitVec.toNat_ofNat, BitVec.toNat_ofNat]
  omega

theorem ofBeBytes_five (a b c d e : Byte) : ofBeBytes [a, b, c, d, e] =
    (((a.toNat * 256 + b.toNat) * 256 + c.toNat) * 256 + d.toNat) * 256 + e.toNat := by
  simp [ofBeBytes]

theorem fiveBytes_ofBeBytes (a b c d e : Byte) :
    fiveBytes (BitVec.ofNat 40 (ofBeBytes [a, b, c, d, e])) = [a, b, c, d, e] := by
  have value : (BitVec.ofNat 40 (ofBeBytes [a, b, c, d, e])).toNat = ofBeBytes [a, b, c, d, e] := by
    rw [BitVec.toNat_ofNat, ofBeBytes_five]
    omega
  rw [fiveBytes, value, ofBeBytes_five]
  simp only [List.cons.injEq, and_true]
  refine ⟨?_, ?_, ?_, ?_, ?_⟩ <;> apply BitVec.eq_of_toNat_eq <;> rw [BitVec.toNat_ofNat] <;> omega

theorem ofBeBytes_fiveBytes (a : Addr) : BitVec.ofNat 40 (ofBeBytes (fiveBytes a)) = a := by
  apply BitVec.eq_of_toNat_eq
  have below := a.isLt
  simp only [fiveBytes, ofBeBytes_five, BitVec.toNat_ofNat]
  omega

theorem toNat_ofNat_byte {n : Nat} (h : n ≤ 255) : (BitVec.ofNat 8 n).toNat = n := by
  rw [BitVec.toNat_ofNat]
  omega

theorem ofNat_toNat_byte (b : Byte) : BitVec.ofNat 8 b.toNat = b := by simp

/-! ## Fields with few values (R189, R191) -/

theorem boolOfByte_eq_some_iff (b : Byte) (x : Bool) : boolOfByte b = some x ↔ b = if x then 1 else 0 := by
  cases x <;> simp +contextual [boolOfByte, ite_eq_iff]

theorem modeOfByte_eq_some_iff (b : Byte) (x : Mode) : modeOfByte b = some x ↔ b = if x = .regulating then 1 else 0 := by
  cases x <;> simp +contextual [modeOfByte, ite_eq_iff]

theorem kindsOfByte_eq_some_iff (b : Byte) (x : RangeKinds) : kindsOfByte b = some x ↔ b = x.byte := by
  cases x <;> simp +contextual [kindsOfByte, ite_eq_iff, RangeKinds.byte, ← and_assoc]

theorem actionOfByte_eq_some_iff (b : Byte) (x : RangeAction) : actionOfByte b = some x ↔ b = x.byte := by
  cases x <;> simp +contextual [actionOfByte, ite_eq_iff, RangeAction.byte, ← and_assoc]

theorem classesOfByte_eq_some_iff (b : Byte) (c : BitVec 4) : classesOfByte b = some c ↔ b = classesByte c := by
  have below := c.isLt
  rw [classesOfByte, classesByte]
  constructor
  · intro read
    split at read
    · cases read
      apply BitVec.eq_of_toNat_eq
      simp only [BitVec.toNat_ofNat]
      omega
    · cases read
  · rintro rfl
    have value : (BitVec.ofNat 8 c.toNat).toNat = c.toNat := toNat_ofNat_byte (by omega)
    rw [value, if_pos below, BitVec.ofNat_toNat]
    simp

/-! ## The blocks (R191) -/

theorem checked_eq_some_iff {α : Type} (inRange : α → Bool) (x : Option α) (y : α) :
    checked inRange x = some y ↔ x = some y ∧ inRange y = true := by
  cases x with
  | none => simp [checked]
  | some x =>
    by_cases fits : inRange x = true
    · simp only [checked, fits, if_true, Option.some.injEq, iff_self_and]
      rintro rfl
      exact fits
    · simp only [checked, fits, Bool.false_eq_true, if_false, reduceCtorEq, Option.some.injEq, false_iff, not_and]
      rintro rfl
      exact fits

theorem GlobalBlock.layout_of_read {b : List Byte} {g : GlobalBlock} (h : GlobalBlock.read b = some g) : g.layout = b := by
  unfold GlobalBlock.read at h
  split at h
  · split at h
    next mode enable hm he =>
      rw [modeOfByte_eq_some_iff] at hm
      rw [boolOfByte_eq_some_iff] at he
      cases h
      simp only [GlobalBlock.layout, twoBytes_ofBeBytes, ofNat_toNat_byte, ← hm, ← he]
      rfl
    next => cases h
  · cases h

theorem GlobalBlock.read_layout {g : GlobalBlock} (h : g.inRange = true) : GlobalBlock.read g.layout = some g := by
  simp only [GlobalBlock.inRange, Bool.and_eq_true, decide_eq_true_eq] at h
  have two {n : Nat} (h : n ≤ 65535) : ofBeBytes [BitVec.ofNat 8 (n / 256), BitVec.ofNat 8 n] = n := ofBeBytes_twoBytes h
  have mode := (modeOfByte_eq_some_iff _ g.mode).2 rfl
  have enable := (boolOfByte_eq_some_iff _ g.syncEnable).2 rfl
  obtain ⟨⟨⟨⟨⟨⟨⟨-, period⟩, phase⟩, guard⟩, completion⟩, -⟩, drain⟩, age⟩ := h
  simp only [GlobalBlock.layout, twoBytes, List.cons_append, List.nil_append, GlobalBlock.read, mode, enable, two period,
    two phase, two guard, two completion, two drain, toNat_ofNat_byte (show g.holdAgeLimit ≤ 255 by omega)]

theorem RequesterEntry.layout_of_read {b : List Byte} {e : RequesterEntry} (h : RequesterEntry.read b = some e) :
    e.layout = b := by
  unfold RequesterEntry.read at h
  split at h
  · split at h
    next present regulated hp hr =>
      rw [boolOfByte_eq_some_iff] at hp hr
      cases h
      simp only [RequesterEntry.layout, twoBytes_ofBeBytes, ofNat_toNat_byte, ← hp, ← hr]
      rfl
    next => cases h
  · cases h

theorem RequesterEntry.read_layout {e : RequesterEntry} (h : e.inRange = true) : RequesterEntry.read e.layout = some e := by
  simp only [RequesterEntry.inRange, Bool.and_eq_true, decide_eq_true_eq] at h
  have two {n : Nat} (h : n ≤ 65535) : ofBeBytes [BitVec.ofNat 8 (n / 256), BitVec.ofNat 8 n] = n := ofBeBytes_twoBytes h
  have present := (boolOfByte_eq_some_iff _ e.present).2 rfl
  have regulated := (boolOfByte_eq_some_iff _ e.regulated).2 rfl
  obtain ⟨⟨⟨⟨⟨allowance, carry⟩, level⟩, cls⟩, share⟩, escalation⟩ := h
  simp only [RequesterEntry.layout, twoBytes, List.cons_append, List.nil_append, RequesterEntry.read, present, regulated,
    two allowance, two carry, toNat_ofNat_byte (show e.level ≤ 255 by omega), toNat_ofNat_byte (show e.cls ≤ 255 by omega),
    toNat_ofNat_byte (show e.holdShare ≤ 255 by omega), toNat_ofNat_byte (show e.escalationLimit ≤ 255 by omega)]

theorem RangeEntry.layout_eq (e : RangeEntry) : e.layout = [if e.valid then 1 else 0] ++ fiveBytes e.base ++
    fiveBytes e.limit ++ [e.kinds.byte, classesByte e.classes, e.action.byte] := by
  rw [← RangeEntry.bytes_eq_layout, RangeEntry.bytes, beBytes_five, beBytes_five, boolByte_eq]

theorem RangeEntry.layout_of_read {b : List Byte} {e : RangeEntry} (h : RangeEntry.read b = some e) : e.layout = b := by
  rw [RangeEntry.layout_eq]
  unfold RangeEntry.read at h
  split at h
  · split at h
    next valid kinds classes action hv hk hc ha =>
      rw [boolOfByte_eq_some_iff] at hv
      rw [kindsOfByte_eq_some_iff] at hk
      rw [classesOfByte_eq_some_iff] at hc
      rw [actionOfByte_eq_some_iff] at ha
      cases h
      simp only [fiveBytes_ofBeBytes, ← hv, ← hk, ← hc, ← ha]
      rfl
    next => cases h
  · cases h

theorem RangeEntry.read_layout (e : RangeEntry) : RangeEntry.read e.layout = some e := by
  have five (a : Addr) : BitVec.ofNat 40 (ofBeBytes [BitVec.ofNat 8 (a.toNat / 4294967296),
      BitVec.ofNat 8 (a.toNat / 16777216), BitVec.ofNat 8 (a.toNat / 65536), BitVec.ofNat 8 (a.toNat / 256),
      BitVec.ofNat 8 a.toNat]) = a := ofBeBytes_fiveBytes a
  have valid := (boolOfByte_eq_some_iff _ e.valid).2 rfl
  have kinds := (kindsOfByte_eq_some_iff _ e.kinds).2 rfl
  have classes := (classesOfByte_eq_some_iff _ e.classes).2 rfl
  have action := (actionOfByte_eq_some_iff _ e.action).2 rfl
  rw [RangeEntry.layout_eq]
  simp only [fiveBytes, List.cons_append, List.nil_append, RangeEntry.read, valid, kinds, classes, action, five]

/-! ## Checked frames (R174) -/

theorem crcBytes_eq (bytes : List Byte) : crcBytes bytes = twoBytes (crc16 bytes).toNat := rfl

/-- Two bytes are those of a value exactly when their value is. -/
theorem eq_twoBytes_iff (high low : Byte) {n : Nat} (h : n < 65536) :
    [high, low] = twoBytes n ↔ high.toNat * 256 + low.toNat = n := by
  constructor
  · intro same
    rw [← ofBeBytes_two, same, ofBeBytes_twoBytes (by omega)]
  · rintro rfl
    rw [← ofBeBytes_two, twoBytes_ofBeBytes]

theorem lengthConsistent_iff (frame : List Byte) : lengthConsistent frame = true ↔
    frame.length ≤ 64 ∧ 5 ≤ frame.length ∧ (frame.getD 2 0).toNat ≤ 59 ∧ frame.length = 5 + (frame.getD 2 0).toNat := by
  simp only [lengthConsistent, Bool.and_eq_true, decide_eq_true_eq, and_assoc]
  rfl

theorem isSome_ite_congr {α β : Type} {c : Prop} [Decidable c] {x : α} {y : β} {a : Option α} {b : Option β}
    (h : a.isSome = b.isSome) : (if c then some x else a).isSome = (if c then some y else b).isSome := by
  split
  · rfl
  · exact h

/-- A command is known by its code: the length and the command are given for the same codes (R190). -/
theorem commandOf_isSome (seq code : Byte) (ps : List Byte) :
    (commandOf seq code ps).isSome = (parameterLength code).isSome := by
  unfold commandOf parameterLength
  iterate 20 apply isSome_ite_congr
  rfl

section
variable {frame : List Byte} (length : lengthConsistent frame = true) (crc : crcAgrees frame = true)
include length crc

theorem checkFrame_of_unknown (unknown : parameterLength (frame.getD 1 0) = none) : checkFrame frame = .unknownCommand := by
  rw [checkFrame, if_pos (by rw [length, crc]; rfl), unknown]

theorem checkFrame_of_other_length {p : Nat} (known : parameterLength (frame.getD 1 0) = some p)
    (differs : p ≠ statedLength frame) : checkFrame frame = .frameError := by
  rw [checkFrame, if_pos (by rw [length, crc]; rfl), known]
  exact if_neg differs

theorem checkFrame_of_command {c : Instr} (known : parameterLength (frame.getD 1 0) = some (statedLength frame))
    (command : commandOf (frame.getD 0 0) (frame.getD 1 0) ((frame.drop 3).take (statedLength frame)) = some c) :
    checkFrame frame = .command c := by
  rw [checkFrame, if_pos (by rw [length, crc]; rfl), known]
  refine (if_pos rfl).trans ?_
  rw [command]

end

theorem checkFrame_of_bad_length {frame : List Byte} (h : ¬ lengthConsistent frame = true) :
    checkFrame frame = .frameError := by
  rw [checkFrame, if_neg (by simp [h])]

theorem checkFrame_of_bad_crc {frame : List Byte} (h : ¬ crcAgrees frame = true) : checkFrame frame = .frameError := by
  rw [checkFrame, if_neg (by simp [h])]

/-- The CRC of a frame split into what it covers and the two bytes received. -/
theorem crcAgrees_iff {frame covered : List Byte} {high low : Byte} (split : frame = covered ++ [high, low])
    (length : covered.length = 3 + statedLength frame) :
    crcAgrees frame = true ↔ high.toNat * 256 + low.toNat = (crc16 covered).toNat := by
  rw [← eq_twoBytes_iff high low (crc16 covered).isLt, ← crcBytes_eq, crcAgrees, ← length, beq_iff_eq, split,
    List.drop_left, List.take_left]

/-! ## The obligations -/

/-- Settles O38: reading a block and laying it out undo each other on the blocks whose fields are in range. -/
theorem writtenBlocksReadBackAsWritten : Obligations.WrittenBlocksReadBackAsWritten := by
  refine ⟨fun b g => (checked_eq_some_iff _ _ _).trans (and_congr_left fun fits => ⟨GlobalBlock.layout_of_read, ?_⟩),
    fun b e => (checked_eq_some_iff _ _ _).trans (and_congr_left fun fits => ⟨RequesterEntry.layout_of_read, ?_⟩),
    fun b e => (checked_eq_some_iff _ _ _).trans (and_congr_left fun fits => ⟨RangeEntry.layout_of_read, ?_⟩)⟩
  · rintro rfl
    exact GlobalBlock.read_layout fits
  · rintro rfl
    exact RequesterEntry.read_layout fits
  · rintro rfl
    exact RangeEntry.read_layout e

/-- Settles O49: the four checks one after another. -/
theorem frameChecksInTheirOrder : Obligations.FrameChecksInTheirOrder := by
  intro frame
  refine ⟨fun bad => checkFrame_of_bad_length ?_, fun covered high low split three length short => ?_⟩
  · rw [lengthConsistent_iff]
    omega
  have agrees := crcAgrees_iff split length
  refine ⟨fun wrong => checkFrame_of_bad_crc (mt agrees.1 wrong), fun right => ?_⟩
  have consistent : lengthConsistent frame = true := by
    have total : frame.length = covered.length + 2 := by rw [split, List.length_append]; rfl
    rw [lengthConsistent_iff]
    omega
  have passes := agrees.2 right
  refine ⟨checkFrame_of_unknown consistent passes, fun p known => ⟨checkFrame_of_other_length consistent passes known, ?_⟩⟩
  rintro rfl
  have command := commandOf_isSome (frame.getD 0 0) (frame.getD 1 0) ((frame.drop 3).take (statedLength frame))
  rw [known, Option.isSome_some, Option.isSome_iff_exists] at command
  obtain ⟨c, command⟩ := command
  exact ⟨c, checkFrame_of_command consistent passes known command⟩

end Sys2Proof.Machine
end

section
/-! PROOFS. Transfers (sections 10.1 and 10.2): the command a frame carries, and what the M-link makes of a refused, an
ignored and a passing frame. -/

namespace Sys2Proof.Machine

/-! ## The frame of a command -/

theorem commandFrame_length (seq code : Byte) (ps : List Byte) : (commandFrame seq code ps).length = 5 + ps.length := by
  have crc (bytes : List Byte) : (crcBytes bytes).length = 2 := rfl
  simp only [commandFrame, List.length_append, List.length_cons, List.length_nil, crc]
  omega

/-- A frame as a host sends it passes the checks, and carries the command of its code and parameters. -/
theorem checkFrame_commandFrame {seq code : Byte} {ps : List Byte} {c : Instr} (known : parameterLength code = some ps.length)
    (short : ps.length ≤ 59) (command : commandOf seq code ps = some c) :
    checkFrame (commandFrame seq code ps) = .command c := by
  have stated : statedLength (commandFrame seq code ps) = ps.length := toNat_ofNat_byte (by omega)
  have covered : commandFrame seq code ps = seq :: code :: BitVec.ofNat 8 ps.length :: (ps ++
      crcBytes ([seq, code, BitVec.ofNat 8 ps.length] ++ ps)) := rfl
  apply checkFrame_of_command
  · rw [lengthConsistent_iff, commandFrame_length]
    rw [statedLength] at stated
    omega
  · rw [crcAgrees, stated, beq_iff_eq, commandFrame, List.drop_left' (by simp; omega), List.take_left' (by simp; omega)]
  · rw [stated]
    exact known
  · rw [stated, covered]
    exact (congrArg (commandOf seq code) (List.take_left' rfl)).trans command

/-- Every command that a frame carries: its code, its parameters, and the length its code has when the command is well
formed (R190). -/
theorem frameOf_spec {c : Instr} {frame : List Byte} (h : frameOf c = some frame) :
    ∃ (seq code : Byte) (ps : List Byte), frame = commandFrame seq code ps ∧ commandOf seq code ps = some c ∧
      (c.wf = true → parameterLength code = some ps.length ∧ ps.length ≤ 59) := by
  cases c
  case writeGlobal seq block =>
    cases h
    refine ⟨seq, codeWriteGlobal, block, rfl, rfl, fun wf => ?_⟩
    rw [of_decide_eq_true wf]
    exact ⟨rfl, by decide⟩
  case writeRequester seq index block =>
    cases h
    refine ⟨seq, codeWriteRequester, index :: block, rfl, rfl, fun wf => ?_⟩
    rw [List.length_cons, of_decide_eq_true wf]
    exact ⟨rfl, by decide⟩
  case writeRange seq index block =>
    cases h
    refine ⟨seq, codeWriteRange, index :: block, rfl, rfl, fun wf => ?_⟩
    rw [List.length_cons, of_decide_eq_true wf]
    exact ⟨rfl, by decide⟩
  all_goals cases h
  all_goals exact ⟨_, _, _, rfl, rfl, fun _ => ⟨rfl, by simp⟩⟩

/-- A command that a frame carries is executed as its row is. -/
theorem exec_of_frameOf {c : Instr} {frame : List Byte} (h : frameOf c = some frame) (s : State) :
    exec c s = .next (s.runDecoded c) := by
  cases c
  all_goals cases h
  all_goals rfl

/-- It is a transfer of its marker and its frame. -/
theorem runDecoded_of_frameOf {c : Instr} {frame : List Byte} (h : frameOf c = some frame) (s : State) :
    ∃ (seq code : Byte) (p : Nat) (act : State → CommandResult), s.runDecoded c = s.run seq code p act ∧
      6 + p = 1 + frame.length := by
  cases c
  all_goals cases h
  all_goals
    refine ⟨_, _, _, _, rfl, ?_⟩
    simp only [commandFrame_length, List.length_cons, List.length_nil] <;> omega

/-! ## The command a passing frame carries -/

section
variable {c : Instr} {seq code : Byte} {ps : List Byte}

theorem frameOf_of_no_parameter (h : 0 = ps.length) (frame : frameOf c = some (commandFrame seq code [])) :
    frameOf c = some (commandFrame seq code ps) := by
  rw [List.length_eq_zero_iff.1 h.symm]
  exact frame

theorem frameOf_of_one_parameter (h : 1 = ps.length) (frame : frameOf c = some (commandFrame seq code [ps.getD 0 0])) :
    frameOf c = some (commandFrame seq code ps) := by
  obtain ⟨x, rfl⟩ := List.length_eq_one_iff.1 h.symm
  exact frame

theorem frameOf_of_two_parameters (h : 2 = ps.length)
    (frame : frameOf c = some (commandFrame seq code [ps.getD 0 0, ps.getD 1 0])) :
    frameOf c = some (commandFrame seq code ps) := by
  obtain ⟨x, y, rfl⟩ := List.length_eq_two.1 h.symm
  exact frame

theorem frameOf_of_index_and_block {n : Nat} (h : n + 1 = ps.length)
    (frame : frameOf c = some (commandFrame seq code (ps.getD 0 0 :: ps.drop 1))) :
    frameOf c = some (commandFrame seq code ps) := by
  obtain ⟨x, block, rfl⟩ := List.exists_cons_of_length_eq_add_one h.symm
  exact frame

theorem of_ite_eq_some {α : Type} {p : Prop} [Decidable p] {x y : α} {rest : Option α}
    (h : (if p then some x else rest) = some y) : (p ∧ x = y) ∨ rest = some y := by
  split at h
  next holds => exact .inl ⟨holds, Option.some.inj h⟩
  next => exact .inr h

/-- The command of a code with parameters of its length is the one that the frame with these carries. -/
theorem frameOf_of_commandOf (command : commandOf seq code ps = some c) (known : parameterLength code = some ps.length) :
    frameOf c = some (commandFrame seq code ps) := by
  unfold commandOf at command
  rcases of_ite_eq_some command with ⟨rfl, rfl⟩ | command
  · exact frameOf_of_no_parameter (Option.some.inj known) rfl
  rcases of_ite_eq_some command with ⟨rfl, rfl⟩ | command
  · exact frameOf_of_no_parameter (Option.some.inj known) rfl
  rcases of_ite_eq_some command with ⟨rfl, rfl⟩ | command
  · exact frameOf_of_one_parameter (Option.some.inj known) rfl
  rcases of_ite_eq_some command with ⟨rfl, rfl⟩ | command
  · rfl
  rcases of_ite_eq_some command with ⟨rfl, rfl⟩ | command
  · exact frameOf_of_two_parameters (Option.some.inj known) rfl
  rcases of_ite_eq_some command with ⟨rfl, rfl⟩ | command
  · exact frameOf_of_index_and_block (Option.some.inj known) rfl
  rcases of_ite_eq_some command with ⟨rfl, rfl⟩ | command
  · exact frameOf_of_two_parameters (Option.some.inj known) rfl
  rcases of_ite_eq_some command with ⟨rfl, rfl⟩ | command
  · exact frameOf_of_index_and_block (Option.some.inj known) rfl
  rcases of_ite_eq_some command with ⟨rfl, rfl⟩ | command
  · exact frameOf_of_no_parameter (Option.some.inj known) rfl
  rcases of_ite_eq_some command with ⟨rfl, rfl⟩ | command
  · exact frameOf_of_one_parameter (Option.some.inj known) rfl
  rcases of_ite_eq_some command with ⟨rfl, rfl⟩ | command
  · exact frameOf_of_no_parameter (Option.some.inj known) rfl
  rcases of_ite_eq_some command with ⟨rfl, rfl⟩ | command
  · exact frameOf_of_no_parameter (Option.some.inj known) rfl
  rcases of_ite_eq_some command with ⟨rfl, rfl⟩ | command
  · exact frameOf_of_no_parameter (Option.some.inj known) rfl
  rcases of_ite_eq_some command with ⟨rfl, rfl⟩ | command
  · exact frameOf_of_one_parameter (Option.some.inj known) rfl
  rcases of_ite_eq_some command with ⟨rfl, rfl⟩ | command
  · exact frameOf_of_one_parameter (Option.some.inj known) rfl
  rcases of_ite_eq_some command with ⟨rfl, rfl⟩ | command
  · exact frameOf_of_one_parameter (Option.some.inj known) rfl
  rcases of_ite_eq_some command with ⟨rfl, rfl⟩ | command
  · exact frameOf_of_no_parameter (Option.some.inj known) rfl
  rcases of_ite_eq_some command with ⟨rfl, rfl⟩ | command
  · exact frameOf_of_one_parameter (Option.some.inj known) rfl
  rcases of_ite_eq_some command with ⟨rfl, rfl⟩ | command
  · exact frameOf_of_one_parameter (Option.some.inj known) rfl
  rcases of_ite_eq_some command with ⟨rfl, rfl⟩ | command
  · exact frameOf_of_one_parameter (Option.some.inj known) rfl
  cases command

end

/-- A frame that passes is as long as the frame of the command it carries. -/
theorem length_of_checkFrame {c : Instr} {frame : List Byte} (h : checkFrame frame = .command c) :
    ∃ sent : List Byte, frameOf c = some sent ∧ sent.length = frame.length := by
  have consistent : lengthConsistent frame = true := by
    by_contra bad
    rw [checkFrame_of_bad_length bad] at h
    cases h
  have passes : crcAgrees frame = true := by
    by_contra bad
    rw [checkFrame_of_bad_crc bad] at h
    cases h
  cases known : parameterLength (frame.getD 1 0) with
  | none =>
    rw [checkFrame_of_unknown consistent passes known] at h
    cases h
  | some p =>
    by_cases same : p = statedLength frame
    · subst same
      have command := commandOf_isSome (frame.getD 0 0) (frame.getD 1 0) ((frame.drop 3).take (statedLength frame))
      rw [known, Option.isSome_some, Option.isSome_iff_exists] at command
      obtain ⟨d, command⟩ := command
      rw [checkFrame_of_command consistent passes known command] at h
      cases h
      obtain ⟨-, -, -, total⟩ := (lengthConsistent_iff frame).1 consistent
      have taken : ((frame.drop 3).take (statedLength frame)).length = statedLength frame := by
        rw [List.length_take, List.length_drop, statedLength]
        omega
      refine ⟨_, frameOf_of_commandOf command (known.trans (congrArg some taken.symm)), ?_⟩
      rw [commandFrame_length, taken, total]
      rfl
    · rw [checkFrame_of_other_length consistent passes known same] at h
      cases h

/-! ## Transfers -/

/-- The transfer of a command frame, on a part with nothing due and no transfer to be ignored. -/
theorem State.command_of_refused {s : State} (ready : s.linkReady = true) (seq code : Byte) (bytes : Nat) (st : Status) :
    (s.command seq code bytes fun s => refusedWith s st) = s.clearOut.withAnswer seq code bytes st [] := by
  simp only [State.linkReady, Bool.and_eq_true, decide_eq_true_eq] at ready
  obtain ⟨settled, select⟩ := ready
  rw [State.command, State.begin_of_settled settled]
  exact if_neg select

/-- Within a select period in which a full reset was taken, a command's transfer is ignored (R188). -/
theorem State.command_of_ignored {s : State} (settled : s.settled = true) (ignored : s.link.select = .ignored)
    (seq code : Byte) (bytes : Nat) (act : State → CommandResult) :
    s.command seq code bytes act = s.clearOut.ignoreTransfer bytes := by
  rw [State.command, State.begin_of_settled settled]
  exact if_pos ignored

theorem State.runDecoded_of_ignored {s : State} (settled : s.settled = true) (ignored : s.link.select = .ignored)
    {c : Instr} {frame : List Byte} (h : frameOf c = some frame) :
    s.runDecoded c = s.clearOut.ignoreTransfer (1 + frame.length) := by
  obtain ⟨seq, code, p, act, run, bytes⟩ := runDecoded_of_frameOf h s
  rw [run, State.run, State.command_of_ignored settled ignored, bytes]

theorem exec_commandFrameRefused (transfer : List Byte) (s : State) :
    exec (.commandFrameRefused transfer) s = .next (s.transfer transfer) := rfl

theorem exec_answerRead (n : Nat) (s : State) : exec (.answerRead n) s = .next (s.begin.answerRead n) := rfl

theorem State.transfer_cons (s : State) (marker : Byte) (frame : List Byte) : s.transfer (marker :: frame) =
    if marker = 0x5A then s.takeFrame frame
    else if marker = 0xA5 then s.begin.answerRead frame.length
    else s.begin.ignoreTransfer (1 + frame.length) := rfl

theorem State.transfer_command (s : State) (frame : List Byte) : s.transfer (0x5A :: frame) = s.takeFrame frame := by
  rw [State.transfer_cons, if_pos rfl]

theorem State.transfer_answerRead (s : State) (frame : List Byte) :
    s.transfer (0xA5 :: frame) = s.begin.answerRead frame.length := by
  rw [State.transfer_cons, if_neg (by decide), if_pos rfl]

theorem State.transfer_unmarked (s : State) {marker : Byte} (frame : List Byte) (command : marker ≠ 0x5A)
    (answer : marker ≠ 0xA5) : s.transfer (marker :: frame) = s.begin.ignoreTransfer (1 + frame.length) := by
  rw [State.transfer_cons, if_neg command, if_neg answer]

/-- Whatever it carries, an ignored transfer is ignored to its last byte (R188). -/
theorem State.transfer_of_ignored {s : State} (settled : s.settled = true) (ignored : s.link.select = .ignored)
    (transfer : List Byte) : s.transfer transfer = s.clearOut.ignoreTransfer transfer.length := by
  cases transfer with
  | nil => rw [← State.begin_of_settled settled]; rfl
  | cons marker frame =>
    rw [List.length_cons, Nat.add_comm]
    by_cases command : marker = 0x5A
    · rw [command, State.transfer_command, State.takeFrame]
      cases verdict : checkFrame frame with
      | command c =>
        obtain ⟨sent, carried, length⟩ := length_of_checkFrame verdict
        rw [← length]
        exact State.runDecoded_of_ignored settled ignored carried
      | frameError => exact State.command_of_ignored settled ignored _ _ _ _
      | unknownCommand => exact State.command_of_ignored settled ignored _ _ _ _
    · by_cases answer : marker = 0xA5
      · rw [answer, State.transfer_answerRead, State.begin_of_settled settled]
        exact if_pos ignored
      · rw [State.transfer_unmarked s frame command answer, State.begin_of_settled settled]

/-! ## The obligations -/

/-- Settles O48: a refusal is the answer of a command that changes nothing; an ignored transfer is fill bytes. -/
theorem refusedAndIgnoredTransfers : Obligations.RefusedAndIgnoredTransfers := by
  refine ⟨fun s frame ready => ?_, fun s settled ignored => ?_⟩
  · obtain ⟨settled, -⟩ := Bool.and_eq_true_iff.1 ready
    simp only [exec_commandFrameRefused, exec_answerRead, Host.Outcome.next.injEq]
    refine ⟨fun error => ?_, fun unknown => ?_, fun marker command answer => ?_, ?_, State.transfer_answerRead s frame⟩
    · rw [State.transfer_command, State.takeFrame, error]
      exact State.command_of_refused ready _ _ _ _
    · rw [State.transfer_command, State.takeFrame, unknown]
      exact State.command_of_refused ready _ _ _ _
    · rw [State.transfer_unmarked s frame command answer, State.begin_of_settled settled]
      rfl
    · rw [State.transfer, State.begin_of_settled settled]
      rfl
  · refine ⟨fun n => ?_, fun transfer => ?_, fun c frame carried => ?_⟩
    · rw [exec_answerRead, State.begin_of_settled settled]
      exact congrArg Host.Outcome.next (if_pos ignored)
    · rw [exec_commandFrameRefused, State.transfer_of_ignored settled ignored]
      rfl
    · rw [exec_of_frameOf carried, State.runDecoded_of_ignored settled ignored carried]
      rfl

/-- Settles O50: the frame is the one of its code and parameters, which decode to the command again. -/
theorem commandFramesCarryTheirCommand : Obligations.CommandFramesCarryTheirCommand := by
  intro c frame s wf carried
  obtain ⟨seq, code, ps, rfl, command, fits⟩ := frameOf_spec carried
  obtain ⟨known, short⟩ := fits wf
  have verdict := checkFrame_commandFrame known short command
  refine ⟨verdict, ?_⟩
  rw [exec_commandFrameRefused, State.transfer_command, State.takeFrame, verdict, exec_of_frameOf carried]

end Sys2Proof.Machine
end

section
/-! PROOFS. The machine's own steps (chapters 1, 7 and 8): the front of the queue, the full reset, the tick, what is idle, and
a tick and a sync that fall together. -/

namespace Sys2Proof.Machine

/-! ## The full reset -/

/-- On a part with nothing due the reset's open choices are those made before it, and its ports show what the select period
had shifted out. -/
theorem exec_reset_of_settled {s : State} (settled : s.settled = true) : exec .reset s =
    .next { State.reset with
      pending := s.pending, openChoices := s.openChoices
      link := { answer := none, lastSeq := 0, lastCode := 0, select := s.link.select.afterReset }
      out := { responses := [], pieces := [], shifted := s.link.shiftedSoFar } } := by
  have arm : exec .reset s = .next s.fullReset := rfl
  rw [arm, State.fullReset, State.begin_of_settled settled]
  rfl

/-- An account after a full reset, a restraint record, a slot: the same everywhere. -/
theorem State.reset_account (r : RequesterId) : State.reset.account r = Account.zero := Table.fill_get _ r
theorem State.reset_restraint (r : RequesterId) : State.reset.restraint r = Restraint.clean := Table.fill_get _ r
theorem State.reset_slot (i : SlotId) : State.reset.slot i = .free := Table.fill_get _ i
theorem State.reset_entry (r : RequesterId) : State.reset.entry r = RequesterEntry.default := Table.fill_get _ r
theorem State.reset_range (n : RangeId) : State.reset.active.ranges[n] = RangeEntry.default := Table.fill_get _ n

/-! ## The tick -/

theorem State.tickForcesEnd_iff (s : State) : s.tickForcesEnd = true ↔
    (∃ n l : Nat, s.restart = .draining n l ∧ l ≤ min (n + 1) 65535) ∧
      (s.issueQueue ≠ [] ∨ ∃ (i : SlotId) (q : SlotRecord), s.slot i = .issued q) := by
  have undrained : s.drained = false ↔ s.issueQueue ≠ [] ∨ ∃ (i : SlotId) (q : SlotRecord), s.slot i = .issued q := by
    rw [Bool.eq_false_iff, ne_eq, s.drained_iff, not_and_or, not_forall]
    refine or_congr_right (exists_congr fun i => ?_)
    rw [Bool.not_eq_false, Slot.isIssued_iff]
  rw [State.tickForcesEnd]
  cases restart : s.restart with
  | idle => simp [RestartState.ticked]
  | draining n l => simp [RestartState.ticked, drainTick, undrained]

theorem State.countTick_slot (s : State) (i : SlotId) : s.countTick.slot i = (s.slot i).ticked := Table.remap_get _ _ i

/-! ## A part that counts nothing but its window -/

theorem State.expireHold_of_no_limit {s : State} (limit : s.active.global.holdAgeLimit = 0) : s.expireHold = s := by
  refine State.expireHold_of_closed ?_
  rw [State.holdClosed, limit]
  simp [HeldEntry.overAge]

/-- A completion limit of 0 is reached by no slot (R128). -/
theorem State.takeTimeouts_of_no_limit {s : State} (unlimited : ∀ limit ∈ s.timeoutCheck, limit = 0) :
    s.takeTimeouts = { s with timeoutCheck := none } := by
  have untouched (u : State) (i : SlotId) : u.timeoutSlot 0 i = u := by
    rw [State.timeoutSlot]
    cases u.slot i with
    | issued r => exact if_neg fun reached => reached.1 rfl
    | free => rfl
    | doneWaiting r => rfl
    | abandoned r => rfl
  have run (is : List SlotId) (u : State) : is.foldl (State.timeoutSlot 0) u = u := by
    induction is with
    | nil => rfl
    | cons i is ih => rw [List.foldl_cons, untouched, ih]
  cases check : s.timeoutCheck with
  | none =>
    have same : ({ s with timeoutCheck := none } : State) = s := by rw [← check]
    rw [State.takeTimeouts, same]
    simp only [check]
  | some limit =>
    have zero := unlimited limit check
    subst zero
    simp only [State.takeTimeouts, check]
    exact run _ _

/-- No limit is set, no drain runs, and the window is not over. -/
structure Calm (s : State) : Prop where
  holdAgeLimit : s.active.global.holdAgeLimit = 0
  completions : ∀ limit ∈ s.timeoutCheck, limit = 0
  commit : s.commit.state = .idle
  restart : s.restart = .idle
  window : s.timer.counter < s.active.global.period

theorem Calm.settle {s : State} (calm : Calm s) : s.settle = { s with timeoutCheck := none }.takeGrant := by
  have open' : ¬ s.windowEndDue = true := fun due => Nat.not_le.2 calm.window (of_decide_eq_true due)
  have noAbandon : ¬ ({ s with timeoutCheck := none } : State).abandonDue = true := fun due => by
    obtain ⟨_, _, draining, -⟩ := (State.abandonDue_iff _).1 due
    exact CommitState.noConfusion (calm.commit.symm.trans draining)
  have noForcedEnd : ¬ ({ s with timeoutCheck := none } : State).forcedEndDue = true := fun due => by
    obtain ⟨_, _, draining, -, -⟩ := (State.forcedEndDue_iff _).1 due
    exact RestartState.noConfusion (calm.restart.symm.trans draining)
  have held := State.expireHold_of_no_limit calm.holdAgeLimit
  rw [State.settle, State.settleTick, held, State.takeWindowEnd, if_neg open', held,
    State.takeTimeouts_of_no_limit calm.completions, State.settleDrains, State.takeAbandon_of_not_due noAbandon,
    State.takeForcedEnd_of_not_due noForcedEnd]

/-- A window end that applies nothing leaves the configuration, and its timer reads it. -/
theorem State.windowEnd_of_idle {s : State} (idle : s.commit.state = .idle) {cause : WindowEndCause}
    (own : cause ≠ .commit) : (s.windowEnd cause).active = s.active ∧ (s.windowEnd cause).commit = s.commit ∧
      (s.windowEnd cause).timer = { counter := if cause = .sync then s.active.global.syncPhase else 0, elapsed := 0
                                    windowNumber := s.timer.windowNumber + 1 } := by
  have applies : s.applies cause = false := by
    cases cause with
    | expiry => simp [State.applies, idle]
    | sync => simp [State.applies, idle]
    | commit => exact absurd rfl own
  rw [State.windowEnd_active, State.windowEnd_commit, State.windowEnd_timer, State.configAfter, State.commitAfter, applies, idle]
  exact ⟨rfl, rfl, rfl⟩

/-- What is left calm by a window end that applies nothing. -/
theorem Calm.of_windowEnd {s : State} (holdAgeLimit : s.active.global.holdAgeLimit = 0)
    (completions : ∀ limit ∈ s.timeoutCheck, limit = 0) (idle : s.commit.state = .idle) (restart : s.restart = .idle)
    {cause : WindowEndCause} (own : cause ≠ .commit) (phase : s.active.global.syncPhase < s.active.global.period) :
    Calm (s.windowEnd cause) := by
  obtain ⟨active, commit, timer⟩ := State.windowEnd_of_idle idle own
  have frame := s.windowEnd_frame cause
  generalize s.windowEnd cause = t at active commit frame timer ⊢
  refine ⟨(congrArg (·.global.holdAgeLimit) active).trans holdAgeLimit, ?_, (congrArg (·.state) commit).trans idle,
    (congrArg (·.restart) frame).trans restart, ?_⟩
  · have check : t.timeoutCheck = s.timeoutCheck := congrArg (·.timeoutCheck) frame
    rw [check]
    exact completions
  · rw [active, timer]
    dsimp only
    split
    · exact phase
    · exact Nat.zero_lt_of_lt phase

/-- Such a part keeps its timer and its configuration through what a command takes first. -/
theorem Calm.begin {s : State} (calm : Calm s) :
    s.begin.commit = s.commit ∧ s.begin.active = s.active ∧ s.begin.timer = s.timer := by
  have cleared : Calm s.clearOut := ⟨calm.holdAgeLimit, calm.completions, calm.commit, calm.restart, calm.window⟩
  rw [State.begin, cleared.settle, State.takeGrant_eq]
  exact ⟨rfl, rfl, rfl⟩

/-- What a command takes first when the window is over: its end by expiry. -/
theorem State.begin_of_reached {s : State} (holdAgeLimit : s.active.global.holdAgeLimit = 0)
    (completions : ∀ limit ∈ s.timeoutCheck, limit = 0) (idle : s.commit.state = .idle) (restart : s.restart = .idle)
    (phase : s.active.global.syncPhase < s.active.global.period) (reached : s.active.global.period ≤ s.timer.counter) :
    s.begin.commit.state = .idle ∧ s.begin.active = s.active ∧
      s.begin.timer = { counter := 0, elapsed := 0, windowNumber := s.timer.windowNumber + 1 } := by
  have due : s.clearOut.windowEndDue = true := decide_eq_true reached
  have calm := Calm.of_windowEnd (s := s.clearOut) (cause := .expiry) holdAgeLimit completions idle restart (by simp) phase
  have open' : ¬ (s.clearOut.windowEnd .expiry).windowEndDue = true := fun due =>
    Nat.not_le.2 calm.window (of_decide_eq_true due)
  obtain ⟨active, commit, timer⟩ := State.windowEnd_of_idle (s := s.clearOut) idle (cause := .expiry) (by simp)
  have ended : s.begin = (s.clearOut.windowEnd .expiry).settle := by
    rw [State.begin, State.settle, State.settleTick, State.expireHold_of_no_limit (s := s.clearOut) holdAgeLimit,
      State.takeWindowEnd, if_pos due, State.settle, State.settleTick, State.expireHold_of_no_limit calm.holdAgeLimit,
      State.takeWindowEnd, if_neg open', State.expireHold_of_no_limit calm.holdAgeLimit]
  rw [ended, calm.settle]
  refine ⟨?_, ?_, ?_⟩ <;> rw [State.takeGrant_eq]
  · exact (congrArg (·.state) commit).trans idle
  · exact active
  · exact timer

/-! ## The obligations -/

/-- Settles O1: by the definition of a step. -/
theorem stepRunsFrontCommand : Obligations.StepRunsFrontCommand := fun _ _ _ => rfl

/-- Settles O3: the select period decides what the port shows; everything else is at its reset value. -/
theorem resetRestoresFullResetValues : Obligations.ResetRestoresFullResetValues := by
  intro s settled
  rw [exec_reset_of_settled settled]
  refine ⟨?_, fun marker rest receiving => ?_, fun released => ?_⟩
  · rintro (ignored | receiving)
    · rw [ignored, Link.shiftedSoFar, ignored]
      rfl
    · rw [receiving, Link.shiftedSoFar, receiving]
      rfl
  · rw [receiving, Link.shiftedSoFar, receiving]
    by_cases answer : marker = 0xA5
    · subst answer
      rfl
    · have other : marker ≠ Config.answerReadMarker := answer
      simp only [if_neg answer, if_neg other, Nat.add_comm 1, List.replicate_succ]
      rfl
  · rw [released, Link.shiftedSoFar, released]
    exact ⟨_, rfl, rfl, rfl, rfl, rfl, fun r => ⟨State.reset_entry r, State.reset_account r, State.reset_restraint r⟩,
      State.reset_range, State.reset_slot, rfl, rfl, rfl, rfl, rfl, rfl, rfl, rfl⟩

/-- Settles O4: the tick is counted on the part as it stands. -/
theorem tickIsCountedEverywhere : Obligations.TickIsCountedEverywhere := by
  intro s settled
  have arm : exec .tick s = .next s.begin.countTick := rfl
  rw [arm, State.begin_of_settled settled]
  refine ⟨_, rfl, rfl, rfl, fun i => ?_, ?_, ?_, s.clearOut.tickForcesEnd_iff⟩
  · rw [State.countTick_slot]
    show (s.slot i).ticked = _
    cases s.slot i <;> rfl
  · show ({ s.commit with state := s.commit.state.ticked } : CommitController) = _
    cases state : s.commit.state <;> simp only [CommitState.ticked, drainTick] <;> rw [← state]
  · show s.restart.ticked = _
    cases s.restart <;> rfl

/-- Settles O7: the tick brings its own window end about before the sync, or the sync's window is the one that the tick
counts in. -/
theorem tickAndSyncTogetherInBothOrders : Obligations.TickAndSyncTogetherInBothOrders := by
  intro s settled idle restart enabled guard holdAge completions phase reached
  have tick (u : State) : exec .tick u = .next u.begin.countTick := rfl
  have sync (u : State) : exec .sync u = .next u.begin.syncArrival := rfl
  have honoured {u : State} (active : u.active = s.active) : u.syncArrival = u.windowEnd .sync := by
    rw [State.syncArrival, active, if_pos enabled, guard, if_pos (Nat.zero_le _)]
  have below : s.active.global.syncPhase < s.active.global.period := Nat.lt_of_succ_lt phase
  refine ⟨⟨_, _, tick s, sync _, ?_⟩, ⟨_, _, sync s, tick _, ?_⟩⟩
  · rw [State.begin_of_settled settled]
    obtain ⟨idle', active', timer'⟩ := State.begin_of_reached (s := s.clearOut.countTick) holdAge
      (by rintro limit ⟨⟩; exact completions) (congrArg CommitState.ticked idle) (congrArg RestartState.ticked restart)
      below reached.ge
    obtain ⟨-, -, timer⟩ := State.windowEnd_of_idle idle' (cause := .sync) (by simp)
    rw [honoured active', timer, timer', active']
    simp [State.countTick, BitVec.add_assoc]
  · rw [State.begin_of_settled settled, honoured (u := s.clearOut) rfl]
    obtain ⟨active, -, timer⟩ := State.windowEnd_of_idle (s := s.clearOut) idle (cause := .sync) (by simp)
    have none : s.timeoutCheck = none := by
      simp only [State.settled, State.tickClosed, Bool.and_eq_true, Option.isNone_iff_eq_none] at settled
      exact settled.1.1.1.2
    have calm := Calm.of_windowEnd (s := s.clearOut) (cause := .sync) holdAge (by simp [none]) idle restart (by simp) below
    obtain ⟨-, -, timer'⟩ := calm.begin
    show ({ ((s.clearOut.windowEnd .sync).begin.timer) with
      counter := (s.clearOut.windowEnd .sync).begin.timer.counter + 1
      elapsed := (s.clearOut.windowEnd .sync).begin.timer.elapsed + 1 } : Timer) = _
    rw [timer', timer]
    rfl

/-- Settles O16: each step looks for what it is to take, and finds nothing. -/
theorem idleStepsDoNothing : Obligations.IdleStepsDoNothing := by
  refine ⟨fun s idle => ?_, fun s settled => ?_⟩
  · rw [step, idle]
  have parts := settled
  simp only [State.settled, Bool.and_eq_true, Bool.not_eq_true'] at parts
  obtain ⟨⟨⟨tick, abandon⟩, forced⟩, -⟩ := parts
  have closed := tick
  simp only [State.tickClosed, Bool.and_eq_true, Bool.not_eq_true', Option.isNone_iff_eq_none] at closed
  obtain ⟨⟨hold, window⟩, check⟩ := closed
  have due := State.beginDue_of_closed hold
  have race := State.beginRace_of_closed tick
  have begin' := State.begin_of_settled settled
  refine ⟨?_, ?_, ?_, ?_, ?_, fun idle => ?_, fun idle => ?_, fun empty => ?_, fun empty => ?_⟩
  · have arm : exec .windowEndByExpiry s = .next s.beginDue.takeWindowEnd := rfl
    rw [arm, due]
    exact congrArg _ (if_neg (Bool.eq_false_iff.1 window))
  · have arm : exec .holdExpiry s = .next s.beginDue := rfl
    rw [arm, due]
  · have arm : exec .completionTimeout s = .next s.beginDue.takeTimeouts := rfl
    rw [arm, due, State.takeTimeouts, State.clearOut_timeoutCheck, check]
  · have arm : exec .commitAbandoned s = .next s.beginDue.takeAbandon := rfl
    rw [arm, due, State.takeAbandon_of_not_due (s := s.clearOut) (Bool.eq_false_iff.1 abandon)]
  · have arm : exec .restartForcedEnd s = .next s.beginDue.takeForcedEnd := rfl
    rw [arm, due, State.takeForcedEnd_of_not_due (s := s.clearOut) (Bool.eq_false_iff.1 forced)]
  · have arm : exec .drainedCommitApply s = .next s.beginRace.takeApply := rfl
    rw [arm, race, State.takeApply, State.clearOut_commit, idle]
    rfl
  · have arm : exec .restartNormalEnd s = .next s.beginRace.takeNormalEnd := rfl
    rw [arm, race, State.takeNormalEnd, State.clearOut_restart, idle]
    rfl
  · have arm : exec .issue s = .next s.begin.issueHead := rfl
    rw [arm, begin', State.issueHead, State.clearOut_issueQueue, empty]
  · have none : s.clearOut.releaseOne = s.clearOut := by
      have claims : s.clearOut.selected = none := by
        rw [State.selected, State.claims, State.clearOut_hold, empty]
        rfl
      rw [State.releaseOne, claims]
      exact ite_self _
    rw [exec_heldEntryRelease_of_settled settled, none]

/-- Settles O53: everything is empty, absent or at a default that passes every check. -/
theorem lawsHoldAtReset : Obligations.LawsHoldAtReset := by
  have ok : Configuration.default.inRange ∧ Configuration.default.commitOk := by
    refine ⟨⟨rfl, fun r => ?_, fun n => ?_⟩, rfl, fun r => ?_, fun n => ?_⟩
    · exact (congrArg RequesterEntry.inRange (State.reset_entry r)).trans rfl
    · exact (congrArg RangeEntry.inRange (State.reset_range n)).trans rfl
    · exact (congrArg RequesterEntry.commitOk (State.reset_entry r)).trans rfl
    · exact (congrArg RangeEntry.commitOk (State.reset_range n)).trans rfl
  refine ⟨?_, ?_, ?_, ?_, ?_, ?_, ?_, ?_, ?_, ?_, ?_, ?_⟩
  · exact ⟨Nat.zero_le _, Nat.zero_le _, Nat.zero_le _⟩
  · exact fun k below => absurd below (Nat.not_lt_zero k)
  · exact ⟨ok.1, ok.1, ok.2, fun waiting => absurd rfl waiting⟩
  · exact ⟨Nat.le_refl _, Nat.zero_le _⟩
  · exact ⟨fun e held => absurd held List.not_mem_nil, fun t queued => absurd queued List.not_mem_nil⟩
  · intro r
    rw [State.reset_entry, State.reset_account]
    exact rfl
  · exact fun regulating => absurd regulating (by decide)
  · exact fun regulating => absurd regulating (by decide)
  · refine ⟨fun r _ => State.reset_restraint r, fun regulating => absurd regulating (by decide)⟩
  · exact ⟨rfl, fun draining => absurd rfl draining, fun forced => absurd forced (by decide)⟩
  · intro i q record
    rw [State.reset_slot] at record
    cases record
  · intro r g
    have slots : ((List.finRange 16).countP fun i => State.reset.leads i && (State.reset.slot i).named r g) = 0 :=
      List.countP_eq_zero.2 fun i _ => by rw [State.reset_slot]; simp [Slot.named, Slot.liveRecord]
    rw [State.liveCount, slots]
    exact Nat.zero_le 1

end Sys2Proof.Machine
end

section
/-! PROOFS. What can happen to the part, said once: every command is a run of the single acts below, around a tick or a
taking at the U-port. A law of every step is kept because every act keeps it. -/

namespace Sys2Proof.Machine

/-! ## The acts -/

/-- One act of the part, with what is known when it is taken. No act reads what the `silent` one writes. -/
inductive Act : State → State → Prop
  /-- Latched causes, the mask, the M-link and its bytes, the request at the U-port, the kept limit, the count of choices. -/
  | silent {s : State} (latched : LatchedCauses) (mask : AlertSet) (link : Link) (shifted : List Byte)
      (uPort : UPortRequest) (check : Option Nat) (choices : Nat) :
      Act s { s with latched := latched, mask := mask, link := link, out := { s.out with shifted := shifted }
                     uPort := uPort, timeoutCheck := check, openChoices := choices }
  /-- Incidents handed to the log (R161, R163). -/
  | noted {s : State} (is : List Incident) : Act s (s.withIncidents is)
  /-- The oldest records leave the log (R164). -/
  | logRead {s : State} (count : Nat) :
      Act s { s with log := { s.log with records := s.log.records.drop count, lost := 0 } }
  /-- Held entries leave the list and are answered RETRY or DENIED in list order (section 3.5, R50). -/
  | flushed {s : State} (named : HeldEntry → Bool) (o : ResponseOutcome) :
      Act s ({ s with hold := s.hold.filter fun e => !named e }.withRefusals
        ((s.hold.filter named).map HeldEntry.txn) o)
  /-- The queued entries are answered RETRY (R115). -/
  | queueRemoved {s : State} : Act s ({ s with issueQueue := [] }.withRefusals s.issueQueue .retry)
  /-- A window end (section 1.1). -/
  | windowEnded {s : State} (cause : WindowEndCause) (pending : cause = .commit → s.commit.state ≠ .idle) :
      Act s (s.windowEnd cause)
  /-- A pending commit ends without an apply (R150, R152, R154). -/
  | commitEnded {s : State} (outcome : CommitOutcome) (window : BitVec 16) :
      Act s { s with commit := { state := .idle, pause := false, outcome := outcome, outcomeWindow := window } }
  /-- COMMIT is accepted (R145). -/
  | armed {s : State} (mode : CommitMode) (idle : s.commit.state = .idle) (calm : s.restart = .idle)
      (ok : s.staged.commitOk) : Act s { s with commit := { s.commit with state := .armed mode } }
  /-- The staged copy is written (R142, R143). -/
  | staged {s : State} (c : Configuration) (idle : s.commit.state = .idle)
      (inRange : s.staged.inRange → s.active.inRange → c.inRange) : Act s { s with staged := c }
  /-- A restart goes to DRAINING (R155). -/
  | restarting {s : State} (limit : Nat) (idle : s.commit.state = .idle) (empty : s.hold = [])
      (calm : s.restart = .idle) : Act s { s with restart := .draining 0 limit }
  /-- A restart ends, with no forced end to be taken; the tick of a forced end may count in window 0 (R157, R158). -/
  | restarted {s : State} (count : Nat) (first : count ≤ 1) (unforced : s.forcedEndDue = false) :
      Act s { s.restartEnd with timer := { counter := count, elapsed := count, windowNumber := 0 } }
  /-- A forced end is being taken (R157). -/
  | unforced {s : State} : Act s { s with forcedEnd := false }
  /-- A present requester's record is written: to ISOLATED when none of its entries is held, else with no strikes or, when
  it was not ISOLATED, with the strikes it had (R83, R84, R92). -/
  | restrained {s : State} (r : RequesterId) (x : Restraint) (present : (s.entry r).present = true)
      (written : (x.standing = .isolated ∧ ∀ e ∈ s.hold, e.txn.requester ≠ r) ∨
        (x.standing ≠ .isolated ∧
          (x.strikes = 0 ∨ ((s.restraint r).standing ≠ .isolated ∧ x.strikes = (s.restraint r).strikes)))) :
      Act s (s.setRestraint r x)
  /-- A held entry moves to the tail of the issue queue (R55). -/
  | released {s : State} {before after : List HeldEntry} (e : HeldEntry) (room : s.issueQueue.length < 8)
      (hold : s.hold = before ++ e :: after) (may : s.mayRelease e.txn.requester = true) :
      Act s { s.withJoined e.txn with hold := before ++ after }
  /-- The head of the issue queue is issued, when it is ready (R107, R108). -/
  | issued {s : State} : Act s s.issueHead
  /-- An ISSUED slot completes (R120, R121). -/
  | completed {s : State} {i : SlotId} {q : SlotRecord} (slot : s.slot i = .issued q) (o : CompletionOutcome)
      (data : List Beat) : Act s (s.complete i o data)
  /-- An ISSUED slot is abandoned (R128, R136). -/
  | abandoned {s : State} {i : SlotId} {q : SlotRecord} (slot : s.slot i = .issued q) : Act s (s.abandonSlot i q)
  /-- ABANDONED slots go FREE (R130, R133). -/
  | freed {s : State} (named : SlotId → Bool) (abandoned : ∀ i, named i = true → ∃ q, s.slot i = .abandoned q) :
      Act s (s.freeSlots named)

theorem Act.port (s : State) (request : UPortRequest) : Act s { s with uPort := request } :=
  .silent _ _ _ _ request _ _

/-- A run of acts. -/
def Acts : State → State → Prop := Relation.ReflTransGen Act

theorem Act.acts {s t : State} (h : Act s t) : Acts s t := Relation.ReflTransGen.single h

theorem Acts.refl {s : State} : Acts s s := Relation.ReflTransGen.refl

theorem Acts.trans {s t u : State} (h : Acts s t) (k : Acts t u) : Acts s u := Relation.ReflTransGen.trans h k

theorem Acts.then {s t u : State} (h : Acts s t) (k : Act t u) : Acts s u := h.trans k.acts

theorem Acts.ite {s t u : State} {c : Prop} [Decidable c] (ht : c → Acts s t) (hu : ¬ c → Acts s u) :
    Acts s (if c then t else u) := by
  split
  next h => exact ht h
  next h => exact hu h

theorem Acts.foldl {α : Type} {f : State → α → State} (hf : ∀ s x, Acts s (f s x)) (xs : List α) (s : State) :
    Acts s (xs.foldl f s) := by
  induction xs generalizing s with
  | nil => exact .refl
  | cons x xs ih => exact (hf s x).trans (ih _)

/-- A taking at the U-port of a transaction the issue queue has room for: it is refused, held or forwarded (R25 to R36). -/
inductive Admits (x : Transaction) : State → State → Prop
  | refused {s : State} (o : ResponseOutcome) : Admits x s (s.withRefusal x o)
  | held {s : State} (wellFormed : malformed x = false) (fresh : s.live x.requester x.tag = false)
      (calm : s.restart = .idle) (room : s.hold.length < 48)
      (standing : s.regulating = true →
        (s.entry x.requester).present = true ∧ (s.restraint x.requester).standing ≠ .isolated) :
      Admits x s (s.holdTransaction x)
  | forwarded {s : State} (wellFormed : malformed x = false) (fresh : s.live x.requester x.tag = false)
      (room : s.issueQueue.length < 8)
      (funded : s.regulating = true → (s.entry x.requester).regulated = true → 1 ≤ (s.account x.requester).balance) :
      Admits x s (s.withJoined x)

/-- What a command that is an event of its own comes to: what was due, the window end by expiry with it (R2, R179). -/
def Begins (s t : State) : Prop := ∃ u, Acts s.clearOut u ∧ Acts u.takeWindowEnd t

theorem Begins.then {s t u : State} (h : Begins s t) (k : Acts t u) : Begins s u := by
  obtain ⟨v, before, after⟩ := h
  exact ⟨v, before, after.trans k⟩

/-- What a command comes to: a full reset, a tick, a taking, or a run of acts. -/
inductive Runs : Instr → State → State → Prop
  | reset {s : State} : Runs .reset s s.fullReset
  | tick {s u : State} (begun : Begins s u) : Runs .tick s u.countTick
  | waits {s u : State} {x : Transaction} (begun : Begins s u) : Runs (.transactionTaken x) s { u with uPort := .waiting }
  | takes {s u v t : State} {x : Transaction} (begun : Begins s u) (admitted : Admits x { u with uPort := .none } v)
      (acts : Acts v t) (taken : t.uPort = .none) : Runs (.transactionTaken x) s t
  | due {c : Instr} {s t : State}
      (row : c = .holdExpiry ∨ c = .completionTimeout ∨ c = .commitAbandoned ∨ c = .restartForcedEnd)
      (acts : Acts s.clearOut t) : Runs c s t
  | event {c : Instr} {s t : State} (row : ∀ x, c ≠ .transactionTaken x) (begun : Begins s t) : Runs c s t

end Sys2Proof.Machine
end

section
/-! PROOFS. Every command is one of the forms of `Runs`: each operation of the model is a run of acts. -/

namespace Sys2Proof.Machine

/-! ## The due steps -/

theorem State.acts_record (s : State) (i : Incident) : Acts s (s.record i) := by
  rw [State.record_eq]
  exact (Act.noted _).acts

theorem State.acts_expireHold (s : State) : Acts s s.expireHold := by
  rw [State.expireHold_eq]
  exact (Act.flushed _ .retry).acts.then (.noted _)

theorem State.acts_takeWindowEnd (s : State) : Acts s s.takeWindowEnd :=
  .ite (fun _ => (Act.windowEnded .expiry nofun).acts) fun _ => .refl

theorem State.acts_timeoutSlot (limit : Nat) (s : State) (i : SlotId) : Acts s (s.timeoutSlot limit i) := by
  unfold State.timeoutSlot
  split
  next r slot =>
    refine .ite (fun _ => ?_) fun _ => .refl
    have slot' : ((s.record (.completionTimeout r.requester r.tag i)).latch LatchedCauses.withQuarantine).slot i =
        .issued r := by
      rw [State.record_eq]
      exact slot
    exact ((s.acts_record _).then (.silent _ _ _ _ _ _ _)).then (.abandoned slot')
  all_goals exact .refl

theorem State.acts_takeTimeouts (s : State) : Acts s s.takeTimeouts := by
  unfold State.takeTimeouts
  split
  next limit check =>
    exact (Act.silent _ _ _ _ _ none _).acts.trans (.foldl (fun s i => s.acts_timeoutSlot limit i) _ _)
  next => exact .refl

theorem State.acts_takeAbandon (s : State) : Acts s s.takeAbandon :=
  .ite (fun _ => ((Act.commitEnded _ _).acts.trans (State.acts_record _ _)).then (.silent _ _ _ _ _ _ _)) fun _ => .refl

theorem State.acts_removeQueued (s : State) : Acts s s.removeQueued := by
  rw [State.removeQueued_eq]
  exact Act.queueRemoved.acts

theorem State.acts_forceSlot (s : State) (i : SlotId) : Acts s (s.forceSlot i) := by
  unfold State.forceSlot
  split
  next r slot => exact (Act.abandoned slot).acts
  all_goals exact .refl

theorem State.acts_forceSlots (s : State) : Acts s s.forceSlots := .foldl State.acts_forceSlot _ _

theorem State.acts_forcePath (s : State) : Acts s s.forcePath := by
  unfold State.forcePath
  refine .ite (fun _ => ?_) fun _ => .ite (fun _ => ?_) fun _ => ?_
  · exact s.acts_removeQueued.trans (State.acts_forceSlots _)
  · exact ((Act.silent _ _ _ _ _ _ _).acts.trans (State.acts_forceSlots _)).trans (State.acts_removeQueued _)
  · exact ((Act.silent _ _ _ _ _ _ _).acts.trans (State.acts_removeQueued _)).trans (State.acts_forceSlots _)

/-- The path of a forced end does not bring another one about. -/
theorem State.forceSlots_forcedEnd (s : State) : s.forceSlots.forcedEnd = s.forcedEnd := by
  have each (s : State) (i : SlotId) : (s.forceSlot i).forcedEnd = s.forcedEnd := by
    unfold State.forceSlot
    split
    · rw [State.abandonSlot_frame]
    all_goals rfl
  unfold State.forceSlots
  induction List.finRange 16 generalizing s with
  | nil => rfl
  | cons i is ih => exact (ih _).trans (each s i)

theorem State.removeQueued_forcedEnd (s : State) : s.removeQueued.forcedEnd = s.forcedEnd := by
  rw [State.removeQueued_eq]
  rfl

theorem State.forcePath_forcedEnd (s : State) : s.forcePath.forcedEnd = s.forcedEnd := by
  unfold State.forcePath
  split
  · rw [State.forceSlots_forcedEnd, State.removeQueued_forcedEnd]
  · split
    · rw [State.removeQueued_forcedEnd, State.forceSlots_forcedEnd]
    · rw [State.forceSlots_forcedEnd, State.removeQueued_forcedEnd]

theorem State.forcedEndDue_of_none {s : State} (h : s.forcedEnd = false) : s.forcedEndDue = false :=
  Bool.eq_false_iff.2 fun due => by
    obtain ⟨_, _, _, _, forced⟩ := (State.forcedEndDue_iff s).1 due
    exact absurd (h.symm.trans forced) Bool.false_ne_true

theorem State.acts_takeForcedEnd (s : State) : Acts s s.takeForcedEnd := by
  refine .ite (fun _ => ?_) fun _ => .refl
  let u : State := { s with openChoices := s.openChoices + 1, forcedEnd := false }
  have path : Acts s (u.forcePath.record (.restartForced (s.slotsWhere Slot.isIssued).length)) :=
    (((Act.silent _ _ _ _ _ _ (s.openChoices + 1)).acts.then .unforced).trans u.acts_forcePath).trans
      (State.acts_record _ _)
  have unforced : (u.forcePath.record (.restartForced (s.slotsWhere Slot.isIssued).length)).forcedEndDue = false := by
    refine State.forcedEndDue_of_none ?_
    rw [State.record_eq]
    exact u.forcePath_forcedEnd
  exact .ite (fun _ => path.then (.restarted 1 le_rfl unforced))
    fun _ => path.then (.restarted 0 (Nat.zero_le 1) unforced)

theorem State.acts_takeGrant (s : State) : Acts s s.takeGrant :=
  .ite (fun _ => (Act.silent _ _ _ _ .granted _ _).acts) fun _ => .refl

theorem State.acts_settleDrains (s : State) : Acts s s.settleDrains :=
  (s.acts_takeAbandon.trans (State.acts_takeForcedEnd _)).trans (State.acts_takeGrant _)

theorem State.begins_settleTick (s : State) : Begins s s.clearOut.settleTick :=
  ⟨_, State.acts_expireHold _, (State.acts_expireHold _).trans (State.acts_takeTimeouts _)⟩

theorem State.begins_begin (s : State) : Begins s s.begin := s.begins_settleTick.then (State.acts_settleDrains _)

/-- Where no window end is due, taking it changes nothing. -/
theorem State.takeWindowEnd_of_not_due {s : State} (h : ¬ s.windowEndDue = true) : s.takeWindowEnd = s := if_neg h

theorem State.begins_beginTaking (s : State) : Begins s s.beginTaking := by
  have tick : Begins s (if s.clearOut.windowEndDue then s.clearOut.settleTick else s.clearOut.takeTimeouts) := by
    split
    · exact s.begins_settleTick
    next notDue =>
      refine ⟨s.clearOut, .refl, ?_⟩
      rw [State.takeWindowEnd_of_not_due notDue]
      exact State.acts_takeTimeouts _
  exact tick.then (State.acts_settleDrains _)

/-! ## The other events -/

theorem State.acts_takeApply (s : State) : Acts s s.takeApply := by
  refine .ite (fun due => (Act.windowEnded .commit fun _ idle => ?_).acts) fun _ => .refl
  rw [idle] at due
  cases due

theorem State.acts_takeNormalEnd (s : State) : Acts s s.takeNormalEnd := by
  refine .ite (fun due => ?_) fun _ => .refl
  rw [Bool.and_eq_true, Bool.not_eq_true'] at due
  exact (Act.restarted 0 (Nat.zero_le 1) due.2).acts

theorem State.acts_syncArrival (s : State) : Acts s s.syncArrival :=
  .ite (fun _ => .ite (fun _ => (Act.windowEnded .sync nofun).acts) fun _ => s.acts_record _) fun _ => .refl

theorem State.acts_releaseOne (s : State) : Acts s s.releaseOne := by
  by_cases room : s.releaseRoom = true
  · cases selected : s.selected with
    | none => rw [State.releaseOne, if_pos room, selected]; exact .refl
    | some e =>
      have claimed : e ∈ s.claims := by
        rw [State.selected_eq_argmax] at selected
        exact List.argmax_mem selected
      obtain ⟨before, eligible⟩ := State.exists_eligibleAfter_of_mem_claims claimed
      obtain ⟨⟨after, hold⟩, first, may⟩ := (s.eligibleAfter_iff before e).1 eligible
      rw [State.releaseOne_of_selected room selected hold first]
      exact (Act.released e (s.releaseRoom_iff.1 room).1 hold may).acts
  · rw [State.releaseOne, if_neg room]
    exact .refl

theorem State.acts_complete (s : State) (i : SlotId) (o : CompletionOutcome) (data : List Beat) :
    Acts s (s.complete i o data) := by
  cases slot : s.slot i with
  | issued q => exact (Act.completed slot o data).acts
  | abandoned q =>
    rw [State.complete_of_abandoned slot]
    refine (Act.noted _).acts.then (.freed _ fun j named => ⟨q, ?_⟩)
    rw [of_decide_eq_true named]
    exact slot
  | free => rw [State.complete_of_free slot]; exact (Act.noted _).acts
  | doneWaiting q => rw [State.complete_of_doneWaiting slot]; exact (Act.noted _).acts

/-! ## The management commands -/

/-- Executing a command is its action, then the answer store and the bytes shifted out. -/
theorem State.begins_command {s : State} {act : State → CommandResult} (acts : ∀ u, Acts u (act u).state)
    (seq code : Byte) (bytes : Nat) : Begins s (s.command seq code bytes act) := by
  refine s.begins_begin.then (.ite (fun _ => ?_) fun _ => ?_)
  · exact (Act.silent _ _ _ _ _ _ _).acts
  · exact (acts _).then (.silent _ _ _ _ _ _ _)

theorem acts_actReadGlobal (copy : Byte) (s : State) : Acts s (actReadGlobal copy s).state := by
  unfold actReadGlobal
  split <;> exact .refl

theorem acts_actReadRequester (index copy : Byte) (s : State) : Acts s (actReadRequester index copy s).state := by
  unfold actReadRequester
  split
  · exact .refl
  · split <;> exact .refl

theorem acts_actReadRange (index copy : Byte) (s : State) : Acts s (actReadRange index copy s).state := by
  unfold actReadRange
  split
  · exact .refl
  · split <;> exact .refl

theorem acts_actReadHold (index : Byte) (s : State) : Acts s (actReadHold index s).state := by
  unfold actReadHold
  split <;> exact .refl

theorem State.idle_of_not_frozen {s : State} (h : ¬ s.frozen = true) : s.commit.state = .idle :=
  not_not.1 (mt s.frozen_iff.2 h)

/-- A value that passes its range check is in its range. -/
theorem inRange_of_checked {α : Type} {inRange : α → Bool} {x : Option α} {y : α} (h : checked inRange x = some y) :
    inRange y = true :=
  ((checked_eq_some_iff inRange x y).1 h).2

theorem acts_actWriteGlobal (block : List Byte) (s : State) : Acts s (actWriteGlobal block s).state := by
  unfold actWriteGlobal
  split
  · exact .refl
  · split
    · exact .refl
    next frozen =>
      split
      · exact .refl
      next g value =>
        have inRange : g.inRange = true := inRange_of_checked value
        exact (Act.staged { s.staged with global := g } (State.idle_of_not_frozen frozen)
          fun staged _ => ⟨inRange, staged.2⟩).acts

theorem acts_actWriteRequester (index : Byte) (block : List Byte) (s : State) :
    Acts s (actWriteRequester index block s).state := by
  unfold actWriteRequester
  split
  · exact .refl
  · split
    · exact .refl
    · split
      · exact .refl
      next r _ frozen =>
        split
        · exact .refl
        next e value =>
          have inRange : e.inRange = true := inRange_of_checked value
          refine (Act.staged _ (State.idle_of_not_frozen frozen) fun staged _ => ?_).acts
          obtain ⟨global, requesters, ranges⟩ := staged
          refine ⟨global, fun q => ?_, ranges⟩
          rw [Table.put_get]
          split
          · exact inRange
          · exact requesters q

theorem acts_actWriteRange (index : Byte) (block : List Byte) (s : State) :
    Acts s (actWriteRange index block s).state := by
  unfold actWriteRange
  split
  · exact .refl
  · split
    · exact .refl
    · split
      · exact .refl
      next n _ frozen =>
        split
        · exact .refl
        next e value =>
          have inRange : e.inRange = true := inRange_of_checked value
          refine (Act.staged _ (State.idle_of_not_frozen frozen) fun staged _ => ?_).acts
          obtain ⟨global, requesters, ranges⟩ := staged
          refine ⟨global, requesters, fun m => ?_⟩
          rw [Table.put_get]
          split
          · exact inRange
          · exact ranges m

theorem acts_actCopyActiveToStaged (s : State) : Acts s (actCopyActiveToStaged s).state := by
  unfold actCopyActiveToStaged
  split
  · exact .refl
  next frozen => exact (Act.staged _ (State.idle_of_not_frozen frozen) fun _ active => active).acts

theorem acts_actCommit (mode : Byte) (s : State) : Acts s (actCommit mode s).state := by
  by_cases busy : s.commit.state ≠ .idle ∨ s.restart ≠ .idle
  · rw [actCommit_of_busy busy]
    exact .refl
  · obtain ⟨idle, calm⟩ := not_or.1 busy
    rw [actCommit_of_idle (not_not.1 idle) (not_not.1 calm)]
    split
    · exact .refl
    · split
      · exact .refl
      next ok =>
        exact (Act.armed _ (not_not.1 idle) (not_not.1 calm) ((Configuration.firstBadItem_eq_none_iff _).1 ok)).acts

theorem State.acts_dropCommit (s : State) (o : CommitOutcome) : Acts s (s.dropCommit o) :=
  .ite (fun _ => (Act.commitEnded _ _).acts) fun _ => .refl

theorem State.dropCommit_state (s : State) (o : CommitOutcome) : (s.dropCommit o).commit.state = .idle := by
  rw [State.dropCommit_eq]
  dsimp only
  split
  next idle => exact idle
  next => rfl

/-- RESTART drops the commit, empties the hold queue and then goes to DRAINING. -/
theorem State.acts_startRestart {s : State} (calm : s.restart = .idle) : Acts s s.startRestart := by
  have dropped := s.acts_dropCommit .cancelledByRestart
  have idle := s.dropCommit_state .cancelledByRestart
  have stays : (s.dropCommit .cancelledByRestart).restart = .idle := by
    rw [State.dropCommit_eq]
    exact calm
  have active : s.active = (s.dropCommit .cancelledByRestart).active := by rw [State.dropCommit_eq]
  rw [State.startRestart, State.flush_eq _ _ _ (Or.inl rfl), active]
  generalize s.dropCommit .cancelledByRestart = u at dropped idle stays
  exact (dropped.then (.flushed (fun _ => true) .retry)).then
    (.restarting u.active.global.drainLimit idle (by simp) stays)

theorem acts_actRestart (s : State) : Acts s (actRestart s).state := by
  unfold actRestart
  split
  · exact .refl
  next calm => exact (State.acts_startRestart (not_not.1 calm)).trans (State.acts_takeNormalEnd _)

theorem acts_actRecoverDownstream (s : State) : Acts s (actRecoverDownstream s).state := by
  refine (Act.freed _ fun i abandoned => ?_).acts
  cases slot : s.slot i with
  | abandoned q => exact ⟨q, rfl⟩
  | free => rw [slot] at abandoned; cases abandoned
  | issued q => rw [slot] at abandoned; cases abandoned
  | doneWaiting q => rw [slot] at abandoned; cases abandoned

/-- Isolation flushes the requester's entries, writes its record and latches its cause. -/
theorem State.acts_isolate {s : State} {r : RequesterId} (present : (s.entry r).present = true) :
    Acts s (s.isolate r) := by
  let u : State := { s with hold := s.hold.filter fun e : HeldEntry => !decide (e.txn.requester = r) }.withRefusals
    ((s.hold.filter fun e : HeldEntry => decide (e.txn.requester = r)).map HeldEntry.txn) .denied
  have alone : ∀ e ∈ u.hold, e.txn.requester ≠ r := fun e mem => by simpa using (List.mem_filter.1 mem).2
  rw [State.isolate_eq]
  exact ((Act.flushed (fun e => decide (e.txn.requester = r)) .denied).acts.then
    (.restrained (s := u) r { s.restraint r with standing := .isolated } present (.inl ⟨rfl, alone⟩))).then
    (.silent _ _ _ _ _ _ _)

theorem acts_actIsolate (index : Byte) (s : State) : Acts s (actIsolate index s).state := by
  unfold actIsolate
  split
  · exact .refl
  · split
    next present => exact (State.acts_isolate present).trans (State.acts_record _ _)
    next => exact .refl

theorem acts_actRelease (index : Byte) (s : State) : Acts s (actRelease index s).state := by
  unfold actRelease
  split
  · exact .refl
  · split
    next present =>
      split
      · exact .refl
      · exact (Act.restrained _ Restraint.clean present (.inr ⟨nofun, .inl rfl⟩)).acts
    next => exact .refl

theorem acts_actReadLog (count : Byte) (s : State) : Acts s (actReadLog count s).state := by
  unfold actReadLog
  split
  · exact (Act.logRead count.toNat).acts
  · exact .refl

theorem acts_actSetAlertMask (set : Byte) (s : State) : Acts s (actSetAlertMask set s).state := by
  unfold actSetAlertMask
  split
  · exact .refl
  next a _ => exact (Act.silent _ a _ _ _ _ _).acts

theorem acts_actAckAlert (set : Byte) (s : State) : Acts s (actAckAlert set s).state := by
  unfold actAckAlert
  split
  · exact .refl
  next a _ => exact (Act.silent _ _ _ _ _ _ _).acts

/-- Every command that a frame carries. -/
theorem State.begins_runDecoded {c : Instr} {frame : List Byte} (h : frameOf c = some frame) (s : State) :
    Begins s (s.runDecoded c) := by
  cases c
  case getIdentity seq => exact State.begins_command (fun _ => .refl) _ _ _
  case readStatus seq => exact State.begins_command (fun _ => .refl) _ _ _
  case readGlobal seq copy => exact State.begins_command (acts_actReadGlobal copy) _ _ _
  case writeGlobal seq block => exact State.begins_command (acts_actWriteGlobal block) _ _ _
  case readRequester seq index copy => exact State.begins_command (acts_actReadRequester index copy) _ _ _
  case writeRequester seq index block => exact State.begins_command (acts_actWriteRequester index block) _ _ _
  case readRange seq index copy => exact State.begins_command (acts_actReadRange index copy) _ _ _
  case writeRange seq index block => exact State.begins_command (acts_actWriteRange index block) _ _ _
  case copyActiveToStaged seq => exact State.begins_command acts_actCopyActiveToStaged _ _ _
  case commit seq mode => exact State.begins_command (acts_actCommit mode) _ _ _
  case cancelCommit seq => exact State.begins_command (fun u => u.acts_dropCommit .cancelled) _ _ _
  case restart seq => exact State.begins_command acts_actRestart _ _ _
  case recoverDownstream seq => exact State.begins_command acts_actRecoverDownstream _ _ _
  case isolate seq index => exact State.begins_command (acts_actIsolate index) _ _ _
  case release seq index => exact State.begins_command (acts_actRelease index) _ _ _
  case readHold seq index => exact State.begins_command (acts_actReadHold index) _ _ _
  case readSlots seq => exact State.begins_command (fun _ => .refl) _ _ _
  case readLog seq count => exact State.begins_command (acts_actReadLog count) _ _ _
  case setAlertMask seq set => exact State.begins_command (acts_actSetAlertMask set) _ _ _
  case ackAlert seq set => exact State.begins_command (acts_actAckAlert set) _ _ _
  all_goals cases h

theorem State.begins_ignoreTransfer (s : State) (bytes : Nat) : Begins s (s.begin.ignoreTransfer bytes) :=
  s.begins_begin.then (Act.silent _ _ _ _ _ _ _).acts

theorem State.begins_answerRead (s : State) (clocked : Nat) : Begins s (s.begin.answerRead clocked) := by
  refine s.begins_begin.then (.ite (fun _ => ?_) fun _ => ?_)
  all_goals exact (Act.silent _ _ _ _ _ _ _).acts

theorem State.begins_transfer (s : State) (transfer : List Byte) : Begins s (s.transfer transfer) := by
  cases transfer with
  | nil => exact s.begins_ignoreTransfer 0
  | cons marker rest =>
    rw [State.transfer_cons]
    split
    · unfold State.takeFrame
      split
      next c passes =>
        obtain ⟨sent, frame, -⟩ := length_of_checkFrame passes
        exact State.begins_runDecoded frame s
      · exact State.begins_command (fun _ => .refl) _ _ _
      · exact State.begins_command (fun _ => .refl) _ _ _
    · split
      · exact s.begins_answerRead _
      · exact s.begins_ignoreTransfer _

end Sys2Proof.Machine
end

section
/-! PROOFS. A taking at the U-port, and then every command and every step, as runs of acts; what every act keeps, every step
keeps. -/

namespace Sys2Proof.Machine

/-! ## What an admission that does more than refuse has found -/

theorem State.fresh_of_decideAdmission {s : State} {x : Transaction} (h : s.decideAdmission x ≠ .malformed)
    (k : s.decideAdmission x ≠ .duplicateTag) : malformed x = false ∧ s.live x.requester x.tag = false := by
  have wellFormed : malformed x = false := Bool.eq_false_iff.2 fun bad => h (if_pos bad)
  refine ⟨wellFormed, Bool.eq_false_iff.2 fun live => k ?_⟩
  exact State.decideAdmission_of_live (fun bad => by rw [(malformed_iff x).2 bad] at wellFormed; cases wellFormed)
    ((s.live_iff _ _).1 live)

/-- Past steps 1 and 2: the restart is idle, and in REGULATING mode the requester is present and not ISOLATED and the range
check decides. -/
theorem State.decideAdmission_cases (s : State) (x : Transaction) :
    s.decideAdmission x = .malformed ∨ s.decideAdmission x = .duplicateTag ∨ s.decideAdmission x = .restarting ∨
    s.decideAdmission x = .unknownRequester ∨ s.decideAdmission x = .isolated ∨
    (s.restart = .idle ∧
      ((s.regulating = true ∧ (s.entry x.requester).present = true ∧ (s.restraint x.requester).standing ≠ .isolated ∧
          s.decideAdmission x = s.decideRange x) ∨
        (s.regulating = false ∧ s.decideAdmission x = s.decideHold x))) := by
  unfold State.decideAdmission
  by_cases bad : malformed x = true
  · simp [bad]
  by_cases live : s.live x.requester x.tag = true
  · simp [bad, live]
  by_cases calm : s.restart = .idle
  · by_cases mode : s.regulating = true
    · by_cases present : (s.entry x.requester).present = true
      · by_cases standing : (s.restraint x.requester).standing = .isolated
        · simp [bad, live, calm, mode, present, standing]
        · simp [bad, live, calm, mode, present, standing]
      · simp [bad, live, calm, mode, present]
    · simp [bad, live, calm, mode]
  · simp [bad, live, calm]

/-- Beyond its own decisions the range check leaves CURBED and the hold test. -/
theorem State.decideRange_cases (s : State) (x : Transaction) :
    (∃ n, s.decideRange x = .rangeDeny n) ∨ (∃ n, s.decideRange x = .rangeCurb n) ∨
    (∃ n, s.decideRange x = .rangeIsolate n) ∨ s.decideRange x = .curbed ∨ s.decideRange x = s.decideHold x := by
  unfold State.decideRange
  split
  next n _ => exact .inl ⟨n, rfl⟩
  next n _ => exact .inr (.inl ⟨n, rfl⟩)
  next n _ => exact .inr (.inr (.inl ⟨n, rfl⟩))
  next =>
    split
    · exact .inr (.inr (.inr (.inl rfl)))
    · exact .inr (.inr (.inr (.inr rfl)))

theorem State.decideHold_cases (s : State) (x : Transaction) :
    (s.decideHold x = .hold ∧ s.hold.length < 48) ∨ s.decideHold x = .noRoom ∨
    (s.decideHold x = .forward ∧ s.toBeHeld x.requester = false) := by
  unfold State.decideHold
  by_cases held : s.toBeHeld x.requester = true
  · by_cases room : s.holdRoom x.requester = true
    · exact .inl ⟨by rw [if_pos held, if_pos room], ((s.holdRoom_iff _).1 room).1⟩
    · exact .inr (.inl (by rw [if_pos held, if_neg room]))
  · exact .inr (.inr ⟨if_neg held, Bool.eq_false_iff.2 held⟩)

/-! ## Acting on the decision -/

/-- A refusal with its incidents. -/
theorem State.admits_of_refusal {s : State} {x : Transaction} {o : ResponseOutcome} {is : List Incident}
    (h : (s.decideAdmission x).refusal x = some (o, is)) :
    ∃ v, Admits x s v ∧ Acts v (s.actOnDecision x) ∧ (s.actOnDecision x).uPort = s.uPort := by
  rw [State.actOnDecision_of_refusal h]
  exact ⟨_, .refused o, (Act.noted is).acts, rfl⟩

theorem State.admits_of_rangeCurb {s : State} {x : Transaction} {n : RangeId} (h : s.decideAdmission x = .rangeCurb n)
    (present : (s.entry x.requester).present = true) (standing : (s.restraint x.requester).standing ≠ .isolated) :
    ∃ v, Admits x s v ∧ Acts v (s.actOnDecision x) ∧ (s.actOnDecision x).uPort = s.uPort := by
  rw [State.actOnDecision_of_rangeCurb h]
  refine ⟨_, .refused .denied, (Act.noted [.rangeCurb x.requester x.tag x.address n]).acts.then
    (.restrained (s := (s.withRefusal x .denied).withIncidents _) x.requester _ present (.inr ⟨nofun, .inr ⟨standing, rfl⟩⟩)), rfl⟩

theorem State.admits_of_rangeIsolate {s : State} {x : Transaction} {n : RangeId}
    (h : s.decideAdmission x = .rangeIsolate n) (present : (s.entry x.requester).present = true) :
    ∃ v, Admits x s v ∧ Acts v (s.actOnDecision x) ∧ (s.actOnDecision x).uPort = s.uPort := by
  have acted : s.actOnDecision x =
      ((s.withRefusal x .denied).withIncidents [.rangeIsolate x.requester x.tag x.address n]).isolate x.requester := by
    rw [State.actOnDecision, h]
    simp only [State.refuse_eq s x .denied (Or.inr rfl), State.record_eq]
  rw [acted]
  refine ⟨_, .refused .denied, (Act.noted _).acts.trans (State.acts_isolate present), ?_⟩
  rw [State.isolate_eq]
  rfl

/-- The hold test, with what the steps before it have found. -/
theorem State.admits_of_decideHold {s : State} {x : Transaction} (decided : s.decideAdmission x = s.decideHold x)
    (room : s.issueQueue.length < 8) (calm : s.restart = .idle)
    (standing : s.regulating = true →
      (s.entry x.requester).present = true ∧ (s.restraint x.requester).standing ≠ .isolated) :
    ∃ v, Admits x s v ∧ Acts v (s.actOnDecision x) ∧ (s.actOnDecision x).uPort = s.uPort := by
  rcases s.decideHold_cases x with ⟨hold, below⟩ | noRoom | ⟨forward, notHeld⟩
  · rw [hold] at decided
    obtain ⟨wellFormed, fresh⟩ := State.fresh_of_decideAdmission (s := s) (x := x) (by rw [decided]; nofun)
      (by rw [decided]; nofun)
    rw [State.actOnDecision, decided]
    exact ⟨_, .held wellFormed fresh calm below standing, .refl, rfl⟩
  · rw [noRoom] at decided
    exact State.admits_of_refusal (o := .retry) (is := []) (by rw [decided, Admission.refusal])
  · rw [forward] at decided
    obtain ⟨wellFormed, fresh⟩ := State.fresh_of_decideAdmission (s := s) (x := x) (by rw [decided]; nofun)
      (by rw [decided]; nofun)
    have joined : s.actOnDecision x = s.withJoined x := by
      rw [State.actOnDecision, decided]
      exact s.join_eq x
    rw [joined]
    refine ⟨_, .forwarded wellFormed fresh room fun mode regulated => ?_, .refl, rfl⟩
    by_contra low
    refine Bool.eq_false_iff.1 notHeld ((s.toBeHeld_iff _).2 (.inr (.inr ⟨of_decide_eq_true mode, regulated, ?_⟩)))
    omega

theorem State.admits_actOnDecision (s : State) (x : Transaction) (room : s.issueQueue.length < 8) :
    ∃ v, Admits x s v ∧ Acts v (s.actOnDecision x) ∧ (s.actOnDecision x).uPort = s.uPort := by
  rcases s.decideAdmission_cases x with h | h | h | h | h | ⟨calm, ⟨mode, present, standing, decided⟩ | ⟨mode, decided⟩⟩
  · exact State.admits_of_refusal (by rw [h, Admission.refusal])
  · exact State.admits_of_refusal (by rw [h, Admission.refusal])
  · exact State.admits_of_refusal (by rw [h, Admission.refusal])
  · exact State.admits_of_refusal (by rw [h, Admission.refusal])
  · exact State.admits_of_refusal (by rw [h, Admission.refusal])
  · rcases s.decideRange_cases x with ⟨n, h⟩ | ⟨n, h⟩ | ⟨n, h⟩ | h | h
    · exact State.admits_of_refusal (by rw [decided, h, Admission.refusal])
    · exact State.admits_of_rangeCurb (decided.trans h) present standing
    · exact State.admits_of_rangeIsolate (decided.trans h) present
    · exact State.admits_of_refusal (by rw [decided, h, Admission.refusal])
    · exact State.admits_of_decideHold (decided.trans h) room calm fun _ => ⟨present, standing⟩
  · exact State.admits_of_decideHold decided room calm fun regulating => absurd (mode.symm.trans regulating) nofun

/-! ## Every command -/

theorem State.runs_transactionTaken (s : State) (x : Transaction) :
    Runs (.transactionTaken x) s (s.beginTaking.takeRequest x) := by
  have begun := s.begins_beginTaking
  generalize s.beginTaking = u at begun ⊢
  unfold State.takeRequest
  split
  next granted =>
    obtain ⟨v, admitted, acts, port⟩ :=
      State.admits_actOnDecision { u with uPort := .none } x (u.uPortGranted_iff.1 granted).1
    exact .takes begun admitted acts port
  next => exact .waits begun

/-- Every command has an effect, and it is one of the forms of `Runs`. -/
theorem exec_runs (c : Instr) (s : State) : ∃ t, exec c s = .next t ∧ Runs c s t := by
  cases frame : frameOf c with
  | some sent =>
    refine ⟨_, exec_of_frameOf frame s, .event (fun x same => ?_) (State.begins_runDecoded frame s)⟩
    rw [same] at frame
    cases frame
  | none =>
    cases c
    case tick => exact ⟨_, rfl, .tick s.begins_begin⟩
    case windowEndByExpiry => exact ⟨_, rfl, .event nofun ⟨_, State.acts_expireHold _, .refl⟩⟩
    case sync => exact ⟨_, rfl, .event nofun (s.begins_begin.then (State.acts_syncArrival _))⟩
    case holdExpiry => exact ⟨_, rfl, .due (.inl rfl) (State.acts_expireHold _)⟩
    case drainedCommitApply => exact ⟨_, rfl, .event nofun (s.begins_settleTick.then (State.acts_takeApply _))⟩
    case commitAbandoned =>
      exact ⟨_, rfl, .due (.inr (.inr (.inl rfl))) ((State.acts_expireHold _).trans (State.acts_takeAbandon _))⟩
    case transactionTaken x => exact ⟨_, rfl, s.runs_transactionTaken x⟩
    case heldEntryRelease => exact ⟨_, rfl, .event nofun (s.begins_begin.then (State.acts_releaseOne _))⟩
    case issue => exact ⟨_, rfl, .event nofun (s.begins_begin.then Act.issued.acts)⟩
    case completion i o data => exact ⟨_, rfl, .event nofun (s.begins_begin.then (State.acts_complete _ i o data))⟩
    case completionTimeout =>
      exact ⟨_, rfl, .due (.inr (.inl rfl)) ((State.acts_expireHold _).trans (State.acts_takeTimeouts _))⟩
    case restartNormalEnd => exact ⟨_, rfl, .event nofun (s.begins_settleTick.then (State.acts_takeNormalEnd _))⟩
    case restartForcedEnd =>
      exact ⟨_, rfl, .due (.inr (.inr (.inr rfl))) ((State.acts_expireHold _).trans (State.acts_takeForcedEnd _))⟩
    case reset => exact ⟨_, rfl, .reset⟩
    case answerRead n => exact ⟨_, exec_answerRead n s, .event nofun (s.begins_answerRead n)⟩
    case commandFrameRefused transfer =>
      exact ⟨_, exec_commandFrameRefused transfer s, .event nofun (s.begins_transfer transfer)⟩
    all_goals cases frame

theorem runs_of_exec {c : Instr} {s t : State} (h : exec c s = .next t) : Runs c s t := by
  obtain ⟨u, taken, runs⟩ := exec_runs c s
  rw [h] at taken
  cases taken
  exact runs

/-- A step on an empty queue idles, and else runs its front command. -/
theorem step_cases {s t : State} (h : step s = .next t) :
    (s.pending = [] ∧ t = s) ∨ ∃ c q, s.pending = c :: q ∧ Runs c { s with pending := q } t := by
  unfold step at h
  split at h
  next idle => cases h; exact .inl ⟨idle, rfl⟩
  next c q queue => exact .inr ⟨c, q, queue, runs_of_exec h⟩

/-! ## What every step keeps -/

theorem Acts.keeps {law : State → Prop} (act : ∀ {s t}, Act s t → law s → law t) {s t : State} (h : Acts s t)
    (start : law s) : law t := by
  induction h with
  | refl => exact start
  | tail _ last ih => exact act last ih

/-- A law that a full reset brings and that each part of a command keeps. -/
structure Kept (law : State → Prop) : Prop where
  clear : ∀ {s}, law s → law s.clearOut
  act : ∀ {s t}, Act s t → law s → law t
  tick : ∀ {s}, law s → law s.countTick
  taken : ∀ {x s t}, Admits x s t → law s → law t
  reset : ∀ {s}, law s → law s.fullReset

section
variable {law : State → Prop} (kept : Kept law)
include kept

theorem Kept.begins {s t : State} (h : Begins s t) (start : law s) : law t := by
  obtain ⟨u, before, after⟩ := h
  exact after.keeps kept.act (u.acts_takeWindowEnd.keeps kept.act (before.keeps kept.act (kept.clear start)))

theorem Kept.runs {c : Instr} {s t : State} (h : Runs c s t) (start : law s) : law t := by
  cases h with
  | reset => exact kept.reset start
  | tick begun => exact kept.tick (kept.begins begun start)
  | waits begun => exact kept.act (.port _ .waiting) (kept.begins begun start)
  | takes begun admitted acts _ =>
    have free := kept.act (.port _ .none) (kept.begins begun start)
    exact acts.keeps kept.act (kept.taken admitted free)
  | due _ acts => exact acts.keeps kept.act (kept.clear start)
  | event _ begun => exact kept.begins begun start

/-- A step runs the front command on the part with the queue's rest, of which the law says nothing. -/
theorem Kept.step {s t : State} (queue : ∀ q, law s → law { s with pending := q }) (start : law s)
    (h : step s = .next t) : law t := by
  rcases step_cases h with ⟨-, rfl⟩ | ⟨c, q, -, runs⟩
  · exact start
  · exact kept.runs runs (queue q start)

end

end Sys2Proof.Machine
end

section
/-! PROOFS. The acts at the outstanding table and the window end, field by field; then the laws of the queue of commands, of
the drains and of the capacities. -/

namespace Sys2Proof.Machine

/-! ## The acts at the outstanding table -/

/-- The end of a piece reaches the slots and the responses alone. -/
theorem State.endPiece_frame (s : State) (i : SlotId) (r : SlotRecord) :
    s.endPiece i r = { s with slots := (s.endPiece i r).slots, out := (s.endPiece i r).out } := by
  have whole : s.endWhole i r = { s with slots := (s.endWhole i r).slots, out := (s.endWhole i r).out } := by
    unfold State.endWhole
    split <;> rfl
  have pair (p : SlotId) (q : SlotRecord) :
      s.endPair i p r q = { s with slots := (s.endPair i p r q).slots, out := (s.endPair i p r q).out } := by
    unfold State.endPair
    split <;> rfl
  by_cases role : r.role = .whole
  · rw [State.endPiece_of_whole role]
    exact whole
  · cases partner : r.partner with
    | none => rw [State.endPiece_of_alone role partner]; rfl
    | some p =>
      cases slot : s.slot p with
      | issued q => rw [State.endPiece_of_issued role partner slot]; rfl
      | doneWaiting q => rw [State.endPiece_of_doneWaiting role partner slot]; exact pair p q
      | abandoned q => rw [State.endPiece_of_abandoned role partner slot]; rfl
      | free =>
        have alone : s.endPiece i r = (s.fault r).freeSlot i := by
          cases h : r.role <;> simp_all [State.endPiece]
        rw [alone]
        rfl

/-- A completion reaches the slots and the responses, and hands the log what it records. -/
theorem State.complete_frame {s : State} {i : SlotId} {q : SlotRecord} (slot : s.slot i = .issued q)
    (o : CompletionOutcome) (data : List Beat) :
    ∃ is, s.complete i o data =
      { s.withIncidents is with slots := (s.complete i o data).slots, out := (s.complete i o data).out } := by
  rw [State.complete_of_issued slot, State.recordError_eq]
  exact ⟨_, State.endPiece_frame _ _ _⟩

/-- The issue of the head takes at most the head of the queue, and reaches the slots and the D-port. -/
theorem State.issueHead_frame (s : State) :
    ∃ n, s.issueHead = { s with issueQueue := s.issueQueue.drop n, slots := s.issueHead.slots, out := s.issueHead.out } := by
  unfold State.issueHead
  split
  next => exact ⟨0, rfl⟩
  next t rest queue =>
    split
    · split
      · exact ⟨1, by rw [queue]; rfl⟩
      · exact ⟨0, rfl⟩
    · split
      · exact ⟨1, by rw [queue]; rfl⟩
      · exact ⟨0, rfl⟩

/-! ## The window end -/

/-- The entries a window end leaves are among those it found that no flush took, aged. -/
theorem State.windowEnd_hold (s : State) (cause : WindowEndCause) : ∃ gone : HeldEntry → Bool,
    (s.windowEnd cause).hold = (s.hold.filter fun e =>
      !s.flushedAt cause e && !s.escalatedAt cause e.txn.requester && !gone e.aged).map HeldEntry.aged := by
  obtain ⟨gone, joins⟩ := (s.windowAged cause).exists_joins (s.applies cause)
  refine ⟨gone, ?_⟩
  rw [State.windowEnd_eq_joinRecords, State.startDrain_eq]
  refine joins.hold.trans ?_
  rw [State.windowAged_hold, List.filter_map, List.filter_filter]
  refine congrArg _ (List.filter_congr fun e _ => ?_)
  rw [Function.comp, State.windowAged_escalates]
  change (!s.escalatedAt cause e.txn.requester && !gone e.aged && !s.flushedAt cause e) = _
  ac_rfl

theorem State.mem_windowEnd_hold {s : State} {cause : WindowEndCause} {e : HeldEntry}
    (h : e ∈ (s.windowEnd cause).hold) : ∃ f ∈ s.hold, e.txn = f.txn ∧ s.flushedAt cause f = false ∧
      s.escalatedAt cause f.txn.requester = false := by
  obtain ⟨gone, hold⟩ := s.windowEnd_hold cause
  rw [hold] at h
  obtain ⟨f, left, rfl⟩ := List.mem_map.1 h
  obtain ⟨held, kept⟩ := List.mem_filter.1 left
  simp only [Bool.and_eq_true, Bool.not_eq_true'] at kept
  obtain ⟨⟨flushed, escalated⟩, -⟩ := kept
  exact ⟨f, held, rfl, flushed, escalated⟩

/-- The records of a window end bear the number of the window it opens. -/
theorem State.windowEnd_log (s : State) (cause : WindowEndCause) :
    ∃ is, (s.windowEnd cause).log = s.log.handed (s.timer.windowNumber + 1) is := by
  obtain ⟨gone, joins⟩ := (s.windowAged cause).exists_joins (s.applies cause)
  obtain ⟨incidents, -, log, -⟩ := joins.log
  have opened : (s.windowAged cause).log = (s.windowOpened cause).log := rfl
  have number : (s.windowAged cause).timer = (s.windowOpened cause).timer := rfl
  refine ⟨incidents.flatten, ?_⟩
  rw [State.windowEnd_eq_joinRecords, State.startDrain_eq]
  refine log.trans ?_
  rw [opened, number, State.windowOpened_timer, State.windowOpened_frame]

/-! ## The queue of commands -/

theorem Act.pending {s t : State} (act : Act s t) : t.pending = s.pending := by
  cases act with
  | windowEnded cause _ => rw [State.windowEnd_frame]
  | issued => obtain ⟨n, frame⟩ := s.issueHead_frame; rw [frame]
  | completed slot o data => obtain ⟨is, frame⟩ := State.complete_frame slot o data; rw [frame]; rfl
  | abandoned slot => rw [State.abandonSlot_frame]
  | _ => rfl

theorem kept_pending (queue : List Instr) : Kept fun s => s.pending = queue where
  clear h := h
  act act h := act.pending.trans h
  tick h := h
  taken admits h := by cases admits <;> exact h
  reset h := h

/-- Settles O2: every command comes to one of the forms of `Runs`, and none of their parts writes the queue. -/
theorem everyCommandAnswersAndKeepsQueue : Obligations.EveryCommandAnswersAndKeepsQueue := by
  intro c s
  obtain ⟨t, taken, runs⟩ := exec_runs c s
  exact ⟨t, taken, (kept_pending s.pending).runs runs rfl⟩

/-! ## The drains (chapter 8) -/

theorem State.commitAfter_pause {s : State} (cause : WindowEndCause) (h : s.commit.pause = s.commit.state.isDraining) :
    (s.commitAfter cause).pause = (s.commitAfter cause).state.isDraining := by
  unfold State.commitAfter
  split
  · rfl
  · split
    · rfl
    · exact h

theorem State.commitAfter_state_idle {s : State} (cause : WindowEndCause) (h : s.commit.state = .idle) :
    (s.commitAfter cause).state = .idle := by
  unfold State.commitAfter
  split
  · rfl
  · rw [if_neg (by simp [h])]
    exact h

theorem DrainLaw.act {s t : State} (act : Act s t) (h : DrainLaw s) : DrainLaw t := by
  obtain ⟨pause, restart, forced⟩ := h
  cases act with
  | silent => exact ⟨pause, restart, forced⟩
  | noted => exact ⟨pause, restart, forced⟩
  | logRead => exact ⟨pause, restart, forced⟩
  | flushed named o =>
    refine ⟨pause, fun busy => ?_, forced⟩
    obtain ⟨idle, empty⟩ := restart busy
    exact ⟨idle, (congrArg (List.filter _) empty).trans rfl⟩
  | queueRemoved => exact ⟨pause, restart, forced⟩
  | windowEnded cause _ =>
    have frame := s.windowEnd_frame cause
    have same : (s.windowEnd cause).restart = s.restart := by rw [frame]
    have forcedEnd : (s.windowEnd cause).forcedEnd = s.forcedEnd := by rw [frame]
    refine ⟨?_, fun busy => ?_, fun due => ?_⟩
    · rw [State.windowEnd_commit]
      exact State.commitAfter_pause cause pause
    · obtain ⟨idle, empty⟩ := restart (same ▸ busy)
      obtain ⟨gone, hold⟩ := s.windowEnd_hold cause
      rw [State.windowEnd_commit, hold, empty]
      exact ⟨State.commitAfter_state_idle cause idle, rfl⟩
    · rw [same]
      exact forced (forcedEnd ▸ due)
  | commitEnded outcome window => exact ⟨rfl, fun busy => ⟨rfl, (restart busy).2⟩, forced⟩
  | armed mode idle calm ok =>
    refine ⟨?_, fun busy => absurd calm busy, forced⟩
    rw [idle] at pause
    exact pause
  | staged => exact ⟨pause, restart, forced⟩
  | restarting limit idle empty calm =>
    refine ⟨pause, fun _ => ⟨idle, empty⟩, fun due => ?_⟩
    obtain ⟨ticks, reached, draining, -⟩ := forced due
    rw [calm] at draining
    cases draining
  | restarted count first unforced =>
    refine ⟨pause, fun busy => absurd rfl busy, fun due => ?_⟩
    obtain ⟨ticks, limit, draining, reached⟩ := forced due
    have still := (State.forcedEndDue_iff s).2 ⟨ticks, limit, draining, reached, due⟩
    exact absurd (unforced.symm.trans still) Bool.false_ne_true
  | unforced => exact ⟨pause, restart, nofun⟩
  | restrained => exact ⟨pause, restart, forced⟩
  | released e room hold may =>
    refine ⟨pause, fun busy => ?_, forced⟩
    obtain ⟨-, empty⟩ := restart busy
    rw [hold] at empty
    simp at empty
  | issued => obtain ⟨n, frame⟩ := s.issueHead_frame; rw [frame]; exact ⟨pause, restart, forced⟩
  | completed slot o data =>
    obtain ⟨is, frame⟩ := State.complete_frame slot o data
    rw [frame]
    exact ⟨pause, restart, forced⟩
  | abandoned slot => rw [State.abandonSlot_frame]; exact ⟨pause, restart, forced⟩
  | freed => exact ⟨pause, restart, forced⟩

theorem kept_drainLaw : Kept DrainLaw where
  clear h := h
  act := DrainLaw.act
  tick := by
    rintro s ⟨pause, restart, forced⟩
    refine ⟨?_, fun busy => ?_, fun due => ?_⟩
    · change s.commit.pause = s.commit.state.ticked.isDraining
      rw [pause]
      cases s.commit.state <;> rfl
    · have draining : s.restart ≠ .idle := fun idle => busy (by change s.restart.ticked = _; rw [idle]; rfl)
      obtain ⟨idle, empty⟩ := restart draining
      refine ⟨?_, empty⟩
      change s.commit.state.ticked = _
      rw [idle]
      rfl
    · change s.tickForcesEnd = true at due
      unfold State.tickForcesEnd at due
      split at due
      next ticks limit ticked =>
        rw [Bool.and_eq_true, decide_eq_true_iff] at due
        exact ⟨ticks, limit, ticked, due.1⟩
      next => cases due
  taken := by
    rintro x s t admits ⟨pause, restart, forced⟩
    cases admits with
    | refused o => exact ⟨pause, restart, forced⟩
    | held _ _ calm _ _ => exact ⟨pause, fun busy => absurd calm busy, forced⟩
    | forwarded => exact ⟨pause, restart, forced⟩
  reset _ := ⟨rfl, fun busy => absurd rfl busy, nofun⟩

/-- Settles O58: no act and no tick breaks the law of the drains. -/
theorem stepKeepsDrainLaw : Obligations.StepKeepsDrainLaw :=
  fun _ _ law step => kept_drainLaw.step (fun _ h => h) law step

/-! ## The capacities and the numbering (R45, R100, R159, R161) -/

/-- A log of at most 32 records, numbered consecutively up to the next number. -/
def IncidentLog.numbered (l : IncidentLog) : Prop :=
  l.records.length ≤ 32 ∧ ∀ k : Nat, k < l.records.length →
    (l.records[k]?).map IncidentRecord.seq = some (l.nextSeq - BitVec.ofNat 16 (l.records.length - k))

theorem IncidentLog.numbered.append {l : IncidentLog} (h : l.numbered) (room : l.records.length < 32) (w : BitVec 16)
    (i : Incident) : (l.append w i).numbered := by
  have length : (l.append w i).records.length = l.records.length + 1 := by simp [IncidentLog.append]
  refine ⟨by omega, fun k hk => ?_⟩
  rw [length] at hk ⊢
  have next : (l.append w i).nextSeq = l.nextSeq + 1 := rfl
  by_cases last : k < l.records.length
  · have old : (l.append w i).records[k]? = l.records[k]? := List.getElem?_append_left last
    have distance : l.records.length + 1 - k = l.records.length - k + 1 := by omega
    rw [old, h.2 k last, next, distance, BitVec.ofNat_add]
    congr 1
    bv_omega
  · have new : k = l.records.length := by omega
    subst new
    have own : (l.append w i).records[l.records.length]? = some ⟨l.nextSeq, w, i⟩ := by simp [IncidentLog.append]
    rw [own, next, Nat.add_sub_cancel_left]
    exact congrArg some (BitVec.add_sub_cancel _ _).symm

theorem IncidentLog.numbered.handed {l : IncidentLog} (h : l.numbered) (w : BitVec 16) (is : List Incident) :
    (l.handed w is).numbered := by
  induction is generalizing l with
  | nil => exact h
  | cons i is ih =>
    have first : l.handed w (i :: is) = (if l.records.length < 32 then l.append w i else l.drop).handed w is := rfl
    rw [first]
    split
    next room => exact ih (h.append room w i)
    next => exact ih (l := l.drop) h

theorem IncidentLog.numbered.read {l : IncidentLog} (h : l.numbered) (n : Nat) :
    { l with records := l.records.drop n, lost := 0 }.numbered := by
  have length : (l.records.drop n).length = l.records.length - n := List.length_drop
  refine ⟨?_, fun k hk => ?_⟩
  · change (l.records.drop n).length ≤ 32
    have := h.1
    omega
  · change k < (l.records.drop n).length at hk
    change ((l.records.drop n)[k]?).map _ = some (l.nextSeq - BitVec.ofNat 16 ((l.records.drop n).length - k))
    rw [List.getElem?_drop, h.2 (n + k) (by omega), length, Nat.sub_add_eq]

/-- The law of the capacities and of the log. -/
def Bounded (s : State) : Prop := s.hold.length ≤ 48 ∧ s.issueQueue.length ≤ 8 ∧ s.log.numbered

theorem bounded_iff (s : State) : Bounded s ↔ CapacityLaw s ∧ LogLaw s := by
  constructor
  · rintro ⟨hold, queue, room, numbers⟩
    exact ⟨⟨hold, queue, room⟩, numbers⟩
  · rintro ⟨⟨hold, queue, room⟩, numbers⟩
    exact ⟨hold, queue, room, numbers⟩

theorem Bounded.act {s t : State} (act : Act s t) (h : Bounded s) : Bounded t := by
  obtain ⟨hold, queue, log⟩ := h
  cases act with
  | silent => exact ⟨hold, queue, log⟩
  | noted is => exact ⟨hold, queue, log.handed _ is⟩
  | logRead count => exact ⟨hold, queue, log.read count⟩
  | flushed named o => exact ⟨(List.length_filter_le _ _).trans hold, queue, log⟩
  | queueRemoved => exact ⟨hold, Nat.zero_le 8, log⟩
  | windowEnded cause _ =>
    obtain ⟨gone, left⟩ := s.windowEnd_hold cause
    obtain ⟨is, joined⟩ := s.windowEnd_log cause
    have same : (s.windowEnd cause).issueQueue = s.issueQueue := by rw [State.windowEnd_frame]
    refine ⟨?_, same ▸ queue, joined ▸ log.handed _ is⟩
    rw [left, List.length_map]
    exact (List.length_filter_le _ _).trans hold
  | commitEnded => exact ⟨hold, queue, log⟩
  | armed => exact ⟨hold, queue, log⟩
  | staged => exact ⟨hold, queue, log⟩
  | restarting => exact ⟨hold, queue, log⟩
  | restarted => exact ⟨hold, queue, log⟩
  | unforced => exact ⟨hold, queue, log⟩
  | restrained => exact ⟨hold, queue, log⟩
  | @released before after e room listed may =>
    refine ⟨?_, ?_, log⟩
    · change (before ++ after).length ≤ 48
      rw [listed] at hold
      simp only [List.length_append, List.length_cons] at hold ⊢
      omega
    · change (s.issueQueue ++ [e.txn]).length ≤ 8
      rw [List.length_append, List.length_singleton]
      exact room
  | issued =>
    obtain ⟨n, frame⟩ := s.issueHead_frame
    rw [frame]
    exact ⟨hold, ((List.drop_sublist n _).length_le).trans queue, log⟩
  | completed slot o data =>
    obtain ⟨is, frame⟩ := State.complete_frame slot o data
    rw [frame]
    exact ⟨hold, queue, log.handed _ is⟩
  | abandoned slot => rw [State.abandonSlot_frame]; exact ⟨hold, queue, log⟩
  | freed => exact ⟨hold, queue, log⟩

theorem kept_bounded : Kept Bounded where
  clear h := h
  act := Bounded.act
  tick h := h
  taken := by
    rintro x s t admits ⟨hold, queue, log⟩
    cases admits with
    | refused o => exact ⟨hold, queue, log⟩
    | held _ _ _ room _ =>
      refine ⟨?_, queue, log⟩
      change (s.hold ++ [_]).length ≤ 48
      rw [List.length_append, List.length_singleton]
      exact room
    | forwarded _ _ room _ =>
      refine ⟨hold, ?_, log⟩
      change (s.issueQueue ++ [x]).length ≤ 8
      rw [List.length_append, List.length_singleton]
      exact room
  reset _ := ⟨Nat.zero_le 48, Nat.zero_le 8, Nat.zero_le 32, fun k hk => absurd hk (Nat.not_lt_zero k)⟩

/-- Settles O54: what joins a queue finds room in it, and the log numbers and drops by its own rule. -/
theorem stepKeepsCapacitiesAndNumbering : Obligations.StepKeepsCapacitiesAndNumbering :=
  fun _ _ capacity log step => (bounded_iff _).1
    (kept_bounded.step (fun _ h => h) ((bounded_iff _).2 ⟨capacity, log⟩) step)

end Sys2Proof.Machine
end

section
/-! PROOFS. The law of the configuration and of the window timer (sections 1.1 and 8.2): every act keeps both copies in range
and the counter in the window, and a window end by expiry brings it below the period. -/

namespace Sys2Proof.Machine

/-- The laws of the configuration and of the timer; `inside` when the counter is below the period (R1). -/
structure Timed (inside : Prop) (s : State) : Prop where
  config : ConfigLaw s
  elapsed : s.timer.elapsed ≤ s.timer.counter
  counter : s.timer.counter ≤ s.active.global.period
  below : inside → s.timer.counter < s.active.global.period

theorem Configuration.inRange.period {c : Configuration} (h : c.inRange) : 16 ≤ c.global.period := by
  have global := h.1
  simp only [GlobalBlock.inRange, Bool.and_eq_true, decide_eq_true_iff] at global
  omega

theorem Configuration.commitOk.syncPhase {c : Configuration} (h : c.commitOk) : c.global.syncPhase < c.global.period := by
  have global := h.1
  rw [GlobalBlock.commitOk, Bool.and_eq_true, decide_eq_true_iff] at global
  exact global.1

/-- An apply takes a pending commit's copy, which has passed the checks (R145, R146, R149). -/
theorem ConfigLaw.pending_of_applies {s : State} {cause : WindowEndCause}
    (pending : cause = .commit → s.commit.state ≠ .idle) (applies : s.applies cause = true) : s.commit.state ≠ .idle := by
  intro idle
  cases cause with
  | commit => exact pending rfl idle
  | expiry => simp [State.applies, idle] at applies
  | sync => simp [State.applies, idle] at applies

theorem ConfigLaw.configAfter {s : State} (law : ConfigLaw s) {cause : WindowEndCause}
    (pending : cause = .commit → s.commit.state ≠ .idle) :
    (s.configAfter cause).inRange ∧ (s.configAfter cause).commitOk := by
  obtain ⟨staged, active, ok, waiting⟩ := law
  unfold State.configAfter
  split
  next applies => exact ⟨staged, waiting (ConfigLaw.pending_of_applies pending applies)⟩
  next => exact ⟨active, ok⟩

theorem ConfigLaw.windowEnd {s : State} (law : ConfigLaw s) {cause : WindowEndCause}
    (pending : cause = .commit → s.commit.state ≠ .idle) : ConfigLaw (s.windowEnd cause) := by
  obtain ⟨inRange, ok⟩ := law.configAfter pending
  obtain ⟨staged, -, -, waiting⟩ := law
  have same : (s.windowEnd cause).staged = s.staged := by rw [State.windowEnd_frame]
  rw [ConfigLaw, State.windowEnd_active, State.windowEnd_commit, same]
  exact ⟨staged, inRange, ok, fun busy => waiting (mt (State.commitAfter_state_idle cause) busy)⟩

/-- A window end opens the next window below its period, whatever the counter was. -/
theorem Timed.windowEnd {inside : Prop} {s : State} (law : ConfigLaw s) {cause : WindowEndCause}
    (pending : cause = .commit → s.commit.state ≠ .idle) : Timed inside (s.windowEnd cause) := by
  obtain ⟨inRange, ok⟩ := law.configAfter pending
  have opened : (s.windowEnd cause).timer.counter < (s.windowEnd cause).active.global.period := by
    rw [State.windowEnd_timer, State.windowEnd_active]
    dsimp only
    split
    · exact ok.syncPhase
    · exact lt_of_lt_of_le (by decide) inRange.period
  refine ⟨law.windowEnd pending, ?_, opened.le, fun _ => opened⟩
  rw [State.windowEnd_timer]
  exact Nat.zero_le _

theorem Timed.act {inside : Prop} {s t : State} (act : Act s t) (h : Timed inside s) : Timed inside t := by
  obtain ⟨config, elapsed, counter, below⟩ := h
  cases act with
  | silent => exact ⟨config, elapsed, counter, below⟩
  | noted => exact ⟨config, elapsed, counter, below⟩
  | logRead => exact ⟨config, elapsed, counter, below⟩
  | flushed => exact ⟨config, elapsed, counter, below⟩
  | queueRemoved => exact ⟨config, elapsed, counter, below⟩
  | windowEnded cause pending => exact Timed.windowEnd config pending
  | commitEnded outcome window =>
    obtain ⟨staged, active, ok, -⟩ := config
    exact ⟨⟨staged, active, ok, fun busy => absurd rfl busy⟩, elapsed, counter, below⟩
  | armed mode idle calm ready =>
    obtain ⟨staged, active, ok, -⟩ := config
    exact ⟨⟨staged, active, ok, fun _ => ready⟩, elapsed, counter, below⟩
  | staged c idle inRange =>
    obtain ⟨staged, active, ok, -⟩ := config
    exact ⟨⟨inRange staged active, active, ok, fun busy => absurd idle busy⟩, elapsed, counter, below⟩
  | restarting => exact ⟨config, elapsed, counter, below⟩
  | restarted count first unforced =>
    have first' : count < s.active.global.period := lt_of_le_of_lt first (lt_of_lt_of_le (by decide) config.2.1.period)
    exact ⟨config, le_refl count, first'.le, fun _ => first'⟩
  | unforced => exact ⟨config, elapsed, counter, below⟩
  | restrained => exact ⟨config, elapsed, counter, below⟩
  | released => exact ⟨config, elapsed, counter, below⟩
  | issued => obtain ⟨n, frame⟩ := s.issueHead_frame; rw [frame]; exact ⟨config, elapsed, counter, below⟩
  | completed slot o data =>
    obtain ⟨is, frame⟩ := State.complete_frame slot o data
    rw [frame]
    exact ⟨config, elapsed, counter, below⟩
  | abandoned slot => rw [State.abandonSlot_frame]; exact ⟨config, elapsed, counter, below⟩
  | freed => exact ⟨config, elapsed, counter, below⟩

theorem Timed.acts {inside : Prop} {s t : State} (acts : Acts s t) (h : Timed inside s) : Timed inside t :=
  acts.keeps Timed.act h

theorem Timed.weaken {p q : Prop} {s : State} (h : Timed p s) (k : q → p) : Timed q s :=
  ⟨h.config, h.elapsed, h.counter, fun inside => h.below (k inside)⟩

/-- Where no window end is due the counter is below the period already. -/
theorem Timed.takeWindowEnd {s : State} (h : Timed False s) : Timed True s.takeWindowEnd := by
  unfold State.takeWindowEnd
  split
  next => exact Timed.windowEnd h.config nofun
  next notDue =>
    exact ⟨h.config, h.elapsed, h.counter, fun _ => Nat.lt_of_not_le fun due => notDue (decide_eq_true due)⟩

theorem Timed.begins {s t : State} (begun : Begins s t) (h : Timed False s) : Timed True t := by
  obtain ⟨u, before, after⟩ := begun
  have cleared : Timed False s.clearOut := ⟨h.config, h.elapsed, h.counter, nofun⟩
  exact Timed.acts after (Timed.acts before cleared).takeWindowEnd

theorem Timed.admits {inside : Prop} {x : Transaction} {s t : State} (admitted : Admits x s t) (h : Timed inside s) :
    Timed inside t := by
  obtain ⟨config, elapsed, counter, below⟩ := h
  cases admitted <;> exact ⟨config, elapsed, counter, below⟩

theorem Timed.countTick {s : State} (h : Timed True s) : Timed False s.countTick := by
  obtain ⟨⟨staged, active, ok, waiting⟩, elapsed, -, below⟩ := h
  refine ⟨⟨staged, active, ok, fun busy => waiting fun idle => busy ?_⟩, Nat.succ_le_succ elapsed, below trivial, nofun⟩
  change s.commit.state.ticked = _
  rw [idle]
  rfl

theorem Timed.fullReset {inside : Prop} (s : State) : Timed inside s.fullReset := by
  obtain ⟨-, -, config, timer, -⟩ := lawsHoldAtReset
  have period : (0 : Nat) < State.reset.active.global.period := by decide
  exact ⟨config, timer.1, timer.2, fun _ => period⟩

/-- A taking leaves the counter below the period. -/
theorem Timed.takes {s u v t : State} {x : Transaction} (h : Timed False s) (begun : Begins s u)
    (admitted : Admits x { u with uPort := .none } v) (acts : Acts v t) : Timed True t :=
  Timed.acts acts (Timed.admits admitted (Timed.act (.port _ .none) (Timed.begins begun h)))

/-- Every command but TICK and those that may be taken before the window end leaves the counter below the period. -/
theorem Timed.runs_below {c : Instr} {s t : State} (runs : Runs c s t) (h : Timed False s) (tick : c ≠ .tick)
    (row : ¬ (c = .holdExpiry ∨ c = .completionTimeout ∨ c = .commitAbandoned ∨ c = .restartForcedEnd)) :
    Timed True t := by
  cases runs with
  | reset => exact Timed.fullReset s
  | tick => exact absurd rfl tick
  | waits begun => exact Timed.act (.port _ .waiting) (Timed.begins begun h)
  | takes begun admitted acts _ => exact h.takes begun admitted acts
  | due four => exact absurd four row
  | event _ begun => exact Timed.begins begun h

/-- Every command but TICK keeps a counter that is below the period there. -/
theorem Timed.runs {inside : Prop} {c : Instr} {s t : State} (runs : Runs c s t) (h : Timed inside s)
    (tick : inside → c ≠ .tick) : Timed inside t := by
  have lax : Timed False s := h.weaken False.elim
  cases runs with
  | reset => exact Timed.fullReset s
  | tick begun => exact (Timed.begins begun lax).countTick.weaken fun inside => tick inside rfl
  | waits begun => exact (Timed.act (.port _ .waiting) (Timed.begins begun lax)).weaken fun _ => trivial
  | takes begun admitted acts _ => exact (lax.takes begun admitted acts).weaken fun _ => trivial
  | due _ acts => exact Timed.acts acts ⟨h.config, h.elapsed, h.counter, h.below⟩
  | event _ begun => exact (Timed.begins begun lax).weaken fun _ => trivial

/-- Settles O55: a window end opens below the period, a tick is counted only there, and no other act moves the counter up. -/
theorem stepKeepsConfigurationAndTimer : Obligations.StepKeepsConfigurationAndTimer := by
  rintro s t config ⟨elapsed, counter⟩ step
  rcases step_cases step with ⟨idle, rfl⟩ | ⟨c, q, queue, runs⟩
  · refine ⟨config, ⟨elapsed, counter⟩, fun c q queue => ?_⟩
    rw [idle] at queue
    cases queue
  · have start : Timed False { s with pending := q } := ⟨config, elapsed, counter, nofun⟩
    obtain ⟨config', elapsed', counter', -⟩ := Timed.runs runs start nofun
    refine ⟨config', ⟨elapsed', counter'⟩, fun c' q' queue' tick => ?_⟩
    rw [queue] at queue'
    cases queue'
    refine ⟨fun below => ?_, fun expiry timeout abandoned forced => ?_⟩
    · have start : Timed True { s with pending := q } := ⟨config, elapsed, counter, fun _ => below⟩
      exact (Timed.runs runs start fun _ => tick).below trivial
    · refine (Timed.runs_below runs start tick ?_).below trivial
      rintro (row | row | row | row)
      · exact expiry row
      · exact timeout row
      · exact abandoned row
      · exact forced row

end Sys2Proof.Machine
end

section
/-! PROOFS. The law of the balances and of a window's spending (section 1.2), with the well-formedness of what is queued. -/

namespace Sys2Proof.Machine

/-! ## What the laws read -/

theorem KeepsUsage.balanceLaw {s t : State} (keeps : KeepsUsage s t) (h : BalanceLaw s) : BalanceLaw t := by
  intro r
  have entry : t.entry r = s.entry r := congrFun (State.entry_congr keeps.active) r
  rw [keeps.balance, entry]
  exact h r

theorem KeepsUsage.spendLaw {s t : State} (keeps : KeepsUsage s t) (h : SpendLaw s) : SpendLaw t := by
  intro mode r accounted
  have entry : t.entry r = s.entry r := congrFun (State.entry_congr keeps.active) r
  rw [State.regulating_congr keeps.active] at mode
  rw [entry] at accounted
  rw [keeps.balance, keeps.beatsThis, entry]
  exact h mode r accounted

theorem State.withRefusal_keepsUsage (s : State) (x : Transaction) (o : ResponseOutcome) :
    KeepsUsage s (s.withRefusal x o) := by
  have account (r : RequesterId) : (s.withRefusal x o).account r =
      if r = x.requester ∧ (s.entry r).present = true then
        { s.account r with
          retryCount := if o = .retry then (s.account r).retryCount + 1 else (s.account r).retryCount
          deniedCount := if o = .denied then (s.account r).deniedCount + 1 else (s.account r).deniedCount }
      else s.account r := Table.remap_get _ _ r
  refine ⟨rfl, fun r => ?_, fun r => ?_, fun r => ?_⟩ <;> rw [account] <;> split <;> rfl

/-! ## Joining the issue queue (R11, R15) -/

theorem State.withJoined_account (s : State) (x : Transaction) (r : RequesterId) :
    (s.withJoined x).account r = if r = x.requester then
        (s.account r).forwarded (s.regulating && (s.entry r).accounted) x.length.val
      else s.account r := by
  rw [← State.join_eq]
  refine (Table.put_get _ _ _ _).trans ?_
  split
  next own => rw [own]
  next => rfl

theorem length_le_of_wellFormed {x : Transaction} (h : malformed x = false) : x.length.val ≤ 16 := by
  have wellFormed : ¬ Malformed x := fun bad => by
    rw [(malformed_iff x).2 bad] at h
    cases h
  unfold Malformed at wellFormed
  omega

section
variable {s : State} {x : Transaction} (balance : BalanceLaw s)
include balance

/-- A charge is for at most 16 beats, against a balance of at least 1. -/
theorem BalanceLaw.withJoined (wellFormed : malformed x = false)
    (funded : s.regulating = true → (s.entry x.requester).regulated = true → 1 ≤ (s.account x.requester).balance) :
    BalanceLaw (s.withJoined x) := by
  intro r
  have law := balance r
  change if (s.entry r).accounted then _ ∧ _ ≤ ((s.entry r).allowance : Int) + ((s.entry r).carryLimit : Int) else _
  rw [State.withJoined_account]
  by_cases own : r = x.requester
  · rw [if_pos own]
    by_cases accounted : (s.entry r).accounted = true
    · rw [if_pos accounted] at law ⊢
      obtain ⟨low, high⟩ := law
      by_cases mode : s.regulating = true
      · have regulated : (s.entry x.requester).regulated = true := by
          rw [RequesterEntry.accounted, Bool.and_eq_true, own] at accounted
          exact accounted.2
        have credit := funded mode regulated
        have short := length_le_of_wellFormed wellFormed
        rw [← own] at credit
        simp only [Account.forwarded, mode, accounted, Bool.and_self, if_true]
        omega
      · simp only [Account.forwarded, mode, Bool.false_and, Bool.false_eq_true, if_false]
        exact ⟨low, high⟩
    · rw [if_neg accounted] at law ⊢
      simp only [Account.forwarded, accounted, Bool.and_false, Bool.false_eq_true, if_false]
      exact law
  · rw [if_neg own]
    exact law

omit balance in
/-- What is charged is counted in the beats of the window, or less. -/
theorem SpendLaw.withJoined (spend : SpendLaw s) : SpendLaw (s.withJoined x) := by
  intro mode r accounted
  have law := spend mode r accounted
  change _ ≤ ((s.entry r).allowance : Int) + ((s.entry r).carryLimit : Int)
  rw [State.withJoined_account]
  split
  · have regulating : s.regulating = true := mode
    have charged : (s.entry r).accounted = true := accounted
    simp only [Account.forwarded, regulating, charged, Bool.and_self, if_true]
    omega
  · exact law

/-! ## Window ends and restarts (R13, R18, R19) -/

omit balance in
theorem refilled_bounds {allowance carry : Nat} {b : Int} (low : -15 ≤ b) :
    -15 ≤ refilled allowance carry b ∧ refilled allowance carry b ≤ (allowance : Int) + (carry : Int) := by
  unfold refilled
  split <;> omega

theorem BalanceLaw.low (r : RequesterId) : -15 ≤ (s.account r).balance := by
  have law := balance r
  split at law
  · exact law.1
  · omega

theorem BalanceLaw.windowEnd (cause : WindowEndCause) : BalanceLaw (s.windowEnd cause) := by
  intro r
  split
  next accounted =>
    rw [State.windowEnd_balance s cause accounted]
    exact refilled_bounds (balance.low r)
  next out =>
    have outside := Bool.eq_false_iff.2 out
    rw [State.windowEnd_balance_of_not_accounted s cause outside]
    split
    · rfl
    next kept =>
      rw [State.entry, State.windowEnd_active, State.configAfter, if_neg kept] at out
      have law := balance r
      rwa [if_neg (show ¬ (s.entry r).accounted = true from out)] at law

/-- The new window has no beats yet. -/
theorem SpendLaw.windowEnd (cause : WindowEndCause) : SpendLaw (s.windowEnd cause) := by
  intro _ r accounted
  have bounds := BalanceLaw.windowEnd balance cause r
  rw [if_pos accounted] at bounds
  rw [State.windowEnd_beatsThis]
  simpa using bounds.2

end

theorem BalanceLaw.restartEnd (s : State) (t : Timer) : BalanceLaw { s.restartEnd with timer := t } := by
  intro r
  have account : ({ s.restartEnd with timer := t } : State).account r = restartedAccount (s.entry r) :=
    Table.remap_get _ _ r
  change if (s.entry r).accounted then _ ∧ _ ≤ ((s.entry r).allowance : Int) + ((s.entry r).carryLimit : Int) else _
  rw [account, restartedAccount]
  by_cases accounted : (s.entry r).accounted = true
  · simp only [accounted, if_true]
    omega
  · simp only [accounted, Bool.false_eq_true, if_false]

theorem SpendLaw.restartEnd (s : State) (t : Timer) : SpendLaw { s.restartEnd with timer := t } := by
  intro _ r accounted
  have account : ({ s.restartEnd with timer := t } : State).account r = restartedAccount (s.entry r) :=
    Table.remap_get _ _ r
  have accounted' : (s.entry r).accounted = true := accounted
  change _ ≤ ((s.entry r).allowance : Int) + ((s.entry r).carryLimit : Int)
  rw [account, restartedAccount, accounted']
  simp [Account.zero]

/-! ## Every act -/

/-- The laws of the accounts with what they rest on. -/
structure Funded (s : State) : Prop where
  wellFormed : QueuedWellFormed s
  balance : BalanceLaw s
  spend : SpendLaw s

/-- An act that keeps the usage, and queues nothing that was not queued before. -/
theorem Funded.of_keepsUsage {s t : State} (h : Funded s) (keeps : KeepsUsage s t)
    (hold : ∀ e ∈ t.hold, ∃ f ∈ s.hold, e.txn = f.txn) (queue : ∀ x ∈ t.issueQueue, x ∈ s.issueQueue) : Funded t := by
  obtain ⟨⟨held, queued⟩, balance, spend⟩ := h
  refine ⟨⟨fun e mem => ?_, fun x mem => queued x (queue x mem)⟩, keeps.balanceLaw balance, keeps.spendLaw spend⟩
  obtain ⟨f, memF, same⟩ := hold e mem
  rw [same]
  exact held f memF

theorem Funded.withJoined {s : State} {x : Transaction} {hold : List HeldEntry} (h : Funded s)
    (wellFormed : malformed x = false) (left : ∀ e ∈ hold, e ∈ s.hold)
    (funded : s.regulating = true → (s.entry x.requester).regulated = true → 1 ≤ (s.account x.requester).balance) :
    Funded { s.withJoined x with hold := hold } := by
  obtain ⟨⟨held, queued⟩, balance, spend⟩ := h
  refine ⟨⟨fun e mem => held e (left e mem), fun y mem => ?_⟩, BalanceLaw.withJoined balance wellFormed funded,
    SpendLaw.withJoined spend⟩
  rcases List.mem_append.1 mem with before | last
  · exact queued y before
  · rw [List.mem_singleton.1 last]
    exact wellFormed

theorem Funded.act {s t : State} (act : Act s t) (h : Funded s) : Funded t := by
  cases act with
  | silent => exact ⟨h.wellFormed, h.balance, h.spend⟩
  | noted => exact ⟨h.wellFormed, h.balance, h.spend⟩
  | logRead => exact ⟨h.wellFormed, h.balance, h.spend⟩
  | flushed named o =>
    have left : Funded { s with hold := s.hold.filter fun e => !named e } :=
      h.of_keepsUsage (.of_eq rfl rfl) (fun e mem => ⟨e, (List.mem_filter.1 mem).1, rfl⟩) fun _ => id
    exact left.of_keepsUsage (State.withRefusals_keepsUsage _ _ _) (fun e mem => ⟨e, mem, rfl⟩) fun _ => id
  | queueRemoved =>
    have left : Funded { s with issueQueue := [] } :=
      h.of_keepsUsage (.of_eq rfl rfl) (fun e mem => ⟨e, mem, rfl⟩) nofun
    exact left.of_keepsUsage (State.withRefusals_keepsUsage _ _ _) (fun e mem => ⟨e, mem, rfl⟩) fun _ => id
  | windowEnded cause _ =>
    have queue : (s.windowEnd cause).issueQueue = s.issueQueue := by rw [State.windowEnd_frame]
    refine ⟨⟨fun e mem => ?_, ?_⟩, h.balance.windowEnd cause, SpendLaw.windowEnd h.balance cause⟩
    · obtain ⟨f, held, same, -⟩ := State.mem_windowEnd_hold mem
      rw [same]
      exact h.wellFormed.1 f held
    · rw [queue]
      exact h.wellFormed.2
  | commitEnded => exact ⟨h.wellFormed, h.balance, h.spend⟩
  | armed => exact ⟨h.wellFormed, h.balance, h.spend⟩
  | staged => exact ⟨h.wellFormed, h.balance, h.spend⟩
  | restarting => exact ⟨h.wellFormed, h.balance, h.spend⟩
  | restarted => exact ⟨h.wellFormed, BalanceLaw.restartEnd s _, SpendLaw.restartEnd s _⟩
  | unforced => exact ⟨h.wellFormed, h.balance, h.spend⟩
  | restrained => exact ⟨h.wellFormed, h.balance, h.spend⟩
  | released e room hold may =>
    refine h.withJoined (h.wellFormed.1 e (by simp [hold])) (fun x mem => ?_) fun mode regulated => ?_
    · rw [hold]
      rcases List.mem_append.1 mem with first | later <;> simp [*]
    · obtain ⟨-, -, standing⟩ := (s.mayRelease_iff _).1 may
      obtain ⟨-, unregulated | credit⟩ := standing (of_decide_eq_true mode)
      · exact absurd (unregulated.symm.trans regulated) Bool.false_ne_true
      · exact credit
  | issued =>
    obtain ⟨n, frame⟩ := s.issueHead_frame
    rw [frame]
    exact h.of_keepsUsage (.of_eq rfl rfl) (fun e mem => ⟨e, mem, rfl⟩) fun x mem => List.mem_of_mem_drop mem
  | completed slot o data =>
    obtain ⟨is, frame⟩ := State.complete_frame slot o data
    rw [frame]
    exact ⟨h.wellFormed, h.balance, h.spend⟩
  | abandoned slot => rw [State.abandonSlot_frame]; exact ⟨h.wellFormed, h.balance, h.spend⟩
  | freed => exact ⟨h.wellFormed, h.balance, h.spend⟩

theorem kept_funded : Kept Funded where
  clear h := ⟨h.wellFormed, h.balance, h.spend⟩
  act := Funded.act
  tick h := ⟨h.wellFormed, h.balance, h.spend⟩
  taken := by
    intro x s t admits h
    cases admits with
    | refused o =>
      exact h.of_keepsUsage (s.withRefusal_keepsUsage x o) (fun e mem => ⟨e, mem, rfl⟩) fun _ => id
    | held wellFormed _ _ _ _ =>
      refine ⟨⟨fun e mem => ?_, h.wellFormed.2⟩, h.balance, h.spend⟩
      rcases List.mem_append.1 mem with before | last
      · exact h.wellFormed.1 e before
      · rw [List.mem_singleton.1 last]
        exact wellFormed
    | forwarded wellFormed _ _ funded => exact h.withJoined (hold := s.hold) wellFormed (fun _ => id) funded
  reset _ := by
    obtain ⟨-, -, -, -, wellFormed, balance, spend, -⟩ := lawsHoldAtReset
    exact ⟨wellFormed, balance, spend⟩

/-- Settles O56: a charge has its credit, a window end its refill, and nothing else writes a balance. -/
theorem stepKeepsBalances : Obligations.StepKeepsBalances := by
  intro s t _ wellFormed balance spend step
  obtain ⟨wellFormed', balance', spend'⟩ :=
    kept_funded.step (fun _ h => ⟨h.wellFormed, h.balance, h.spend⟩) ⟨wellFormed, balance, spend⟩ step
  exact ⟨wellFormed', balance', spend'⟩

end Sys2Proof.Machine
end

section
/-! PROOFS. The laws of standing (sections 3.5, 5.3 and 5.5): who is held in REGULATING mode, and whose strikes stay below the
escalation limit. -/

namespace Sys2Proof.Machine

/-! ## The record after a window end -/

section
variable {s : State} {cause : WindowEndCause} {r : RequesterId}

/-- A requester that is absent after a window end is not evaluated there. -/
theorem State.evaluatedAt_of_absent (absent : ((s.configAfter cause).requesters[r]).present = false) :
    s.evaluatedAt cause r = false := by
  rw [State.evaluatedAt, absent, Bool.and_false, Bool.false_and]

theorem State.evaluatedAt_of_regulating (mode : (s.configAfter cause).global.mode = .regulating)
    (present : ((s.configAfter cause).requesters[r]).present = true)
    (standing : (s.recordBefore cause r).standing ≠ .isolated) : s.evaluatedAt cause r = true := by
  rw [State.evaluatedAt, decide_eq_true mode, present, decide_eq_true standing]
  rfl

theorem State.recordAfter_of_not_evaluated (h : s.evaluatedAt cause r = false) :
    s.recordAfter cause r = s.recordBefore cause r := by
  simp only [State.recordAfter, h, Bool.false_eq_true, if_false]

theorem State.recordAfter_of_evaluated (h : s.evaluatedAt cause r = true) :
    (s.recordAfter cause r).strikes = strikesAfter (s.recordBefore cause r) ∧
      ((s.recordAfter cause r).standing = .isolated ↔ s.escalatedAt cause r = true) := by
  simp only [State.recordAfter, h, if_true, true_and]
  cases s.escalatedAt cause r
  · cases (s.recordBefore cause r).curbHit <;> simp
  · simp

theorem State.recordBefore_of_present (present : ((s.configAfter cause).requesters[r]).present = true) :
    s.recordBefore cause r = s.restraint r := by
  unfold State.recordBefore
  by_cases applies : s.applies cause = true
  · rw [State.configAfter, if_pos applies] at present
    rw [present, Bool.not_true, Bool.and_false]
    rfl
  · rw [Bool.eq_false_iff.2 applies]
    rfl

end

/-! ## Every act -/

/-- The laws of who is held and of the strikes. -/
structure Standings (s : State) : Prop where
  held : HeldStandingLaw s
  clean : ∀ r : RequesterId, (s.entry r).present = false → s.restraint r = Restraint.clean
  strikes : s.regulating = true → ∀ r : RequesterId, (s.restraint r).standing ≠ .isolated →
    (s.entry r).escalationLimit ≠ 0 → (s.restraint r).strikes < (s.entry r).escalationLimit

/-- Entries that leave the hold queue break no law. -/
theorem Standings.of_hold {s t : State} (h : Standings s) (active : t.active = s.active)
    (restraints : t.restraints = s.restraints) (hold : ∀ e ∈ t.hold, e ∈ s.hold) : Standings t := by
  have entry := State.entry_congr active
  have regulating := State.regulating_congr active
  have restraint (r : RequesterId) : t.restraint r = s.restraint r := by rw [State.restraint, restraints, State.restraint]
  refine ⟨fun mode e mem => ?_, fun r => ?_, fun mode r => ?_⟩
  · rw [entry, restraint]
    exact h.held (regulating ▸ mode) e (hold e mem)
  · rw [entry, restraint]
    exact h.clean r
  · rw [entry, restraint]
    exact h.strikes (regulating ▸ mode) r

section
variable {s : State} (h : Standings s) (cause : WindowEndCause)
include h

/-- An absent requester's record is clean after a window end (R95). -/
theorem Standings.clean_windowEnd {r : RequesterId} (absent : ((s.configAfter cause).requesters[r]).present = false) :
    s.recordAfter cause r = Restraint.clean := by
  rw [State.recordAfter_of_not_evaluated (State.evaluatedAt_of_absent absent), State.recordBefore]
  by_cases applies : s.applies cause = true
  · rw [State.configAfter, if_pos applies] at absent
    rw [applies, absent]
    rfl
  · rw [State.configAfter, if_neg applies] at absent
    rw [Bool.eq_false_iff.2 applies]
    exact h.clean r absent

/-- What an apply does not flush and no escalation takes is held for a present requester that is not ISOLATED (R60, R61). -/
theorem Standings.held_windowEnd (mode : (s.configAfter cause).global.mode = .regulating) {e : HeldEntry}
    (mem : e ∈ s.hold) (kept : s.flushedAt cause e = false) (calm : s.escalatedAt cause e.txn.requester = false) :
    ((s.configAfter cause).requesters[e.txn.requester]).present = true ∧
      (s.recordAfter cause e.txn.requester).standing ≠ .isolated := by
  have before : ((s.configAfter cause).requesters[e.txn.requester]).present = true ∧
      (s.restraint e.txn.requester).standing ≠ .isolated := by
    by_cases applies : s.applies cause = true
    · rw [State.configAfter, if_pos applies] at mode ⊢
      simpa [State.flushedAt, applies, mode] using kept
    · rw [State.configAfter, if_neg applies] at mode ⊢
      exact h.held (decide_eq_true mode) e mem
  obtain ⟨present, standing⟩ := before
  refine ⟨present, ?_⟩
  rw [← State.recordBefore_of_present (cause := cause) present] at standing
  have evaluated := State.evaluatedAt_of_regulating mode present standing
  exact fun isolated => Bool.false_ne_true (calm.symm.trans ((State.recordAfter_of_evaluated evaluated).2.1 isolated))

/-- Who is not escalated stays below its limit (R89). -/
theorem Standings.strikes_windowEnd (mode : (s.configAfter cause).global.mode = .regulating) {r : RequesterId}
    (standing : (s.recordAfter cause r).standing ≠ .isolated)
    (limit : ((s.configAfter cause).requesters[r]).escalationLimit ≠ 0) :
    (s.recordAfter cause r).strikes < ((s.configAfter cause).requesters[r]).escalationLimit := by
  by_cases present : ((s.configAfter cause).requesters[r]).present = true
  · by_cases isolated : (s.recordBefore cause r).standing = .isolated
    · have quiet : s.evaluatedAt cause r = false := by simp [State.evaluatedAt, isolated]
      rw [State.recordAfter_of_not_evaluated quiet] at standing
      exact absurd isolated standing
    · have evaluated := State.evaluatedAt_of_regulating mode present isolated
      obtain ⟨strikes, escalated⟩ := State.recordAfter_of_evaluated evaluated
      have calm := mt escalated.2 standing
      simp only [State.escalatedAt, evaluated, Bool.true_and, Bool.and_eq_true, decide_eq_true_iff, not_and,
        Nat.not_le] at calm
      rw [strikes]
      exact calm limit
  · rw [h.clean_windowEnd cause (Bool.eq_false_iff.2 present)]
    exact Nat.pos_of_ne_zero limit

theorem Standings.windowEnd : Standings (s.windowEnd cause) := by
  have entry (r : RequesterId) : (s.windowEnd cause).entry r = (s.configAfter cause).requesters[r] := by
    rw [State.entry, State.windowEnd_active]
  have mode : (s.windowEnd cause).regulating = true → (s.configAfter cause).global.mode = .regulating := by
    rw [State.regulating, State.windowEnd_active]
    exact of_decide_eq_true
  refine ⟨fun regulating e left => ?_, fun r absent => ?_, fun regulating r standing limit => ?_⟩
  · obtain ⟨f, mem, same, kept, calm⟩ := State.mem_windowEnd_hold left
    rw [same, entry, State.windowEnd_restraint]
    exact h.held_windowEnd cause (mode regulating) mem kept calm
  · rw [entry] at absent
    rw [State.windowEnd_restraint]
    exact h.clean_windowEnd cause absent
  · rw [entry] at limit ⊢
    rw [State.windowEnd_restraint] at standing ⊢
    exact h.strikes_windowEnd cause (mode regulating) standing limit

omit cause in
/-- A restart leaves every record clean (R96). -/
theorem Standings.restartEnd (t : Timer) : Standings { s.restartEnd with timer := t } := by
  have restraint (r : RequesterId) : ({ s.restartEnd with timer := t } : State).restraint r = Restraint.clean :=
    Table.fill_get _ r
  refine ⟨fun mode e mem => ⟨(h.held mode e mem).1, ?_⟩, fun r _ => restraint r, fun _ r _ limit => ?_⟩
  · rw [restraint]
    nofun
  · rw [restraint]
    exact Nat.pos_of_ne_zero limit

omit cause in
/-- A record written for a present requester. -/
theorem Standings.setRestraint {r : RequesterId} {x : Restraint} (present : (s.entry r).present = true)
    (written : (x.standing = .isolated ∧ ∀ e ∈ s.hold, e.txn.requester ≠ r) ∨
      (x.standing ≠ .isolated ∧
        (x.strikes = 0 ∨ ((s.restraint r).standing ≠ .isolated ∧ x.strikes = (s.restraint r).strikes)))) :
    Standings (s.setRestraint r x) := by
  refine ⟨fun mode e mem => ?_, fun q absent => ?_, fun mode q standing limit => ?_⟩
  · obtain ⟨there, standing⟩ := h.held mode e mem
    refine ⟨there, ?_⟩
    rw [State.setRestraint_restraint]
    split
    next own =>
      rcases written with ⟨-, alone⟩ | ⟨other, -⟩
      · exact absurd own (alone e mem)
      · exact other
    next => exact standing
  · have other : q ≠ r := by
      rintro rfl
      exact Bool.false_ne_true (absent.symm.trans present)
    rw [State.setRestraint_restraint, if_neg other]
    exact h.clean q absent
  · rw [State.setRestraint_restraint] at standing ⊢
    split at standing
    next own =>
      rw [if_pos own]
      rcases written with ⟨isolated, -⟩ | ⟨-, zero | ⟨before, same⟩⟩
      · exact absurd isolated standing
      · rw [zero]
        exact Nat.pos_of_ne_zero limit
      · rw [same, ← own]
        rw [← own] at before
        exact h.strikes mode q before limit
    next other =>
      rw [if_neg other]
      exact h.strikes mode q standing limit

end

theorem Standings.act {s t : State} (act : Act s t) (h : Standings s) : Standings t := by
  cases act with
  | silent => exact ⟨h.held, h.clean, h.strikes⟩
  | noted => exact ⟨h.held, h.clean, h.strikes⟩
  | logRead => exact ⟨h.held, h.clean, h.strikes⟩
  | flushed => exact h.of_hold rfl rfl fun e mem => (List.mem_filter.1 mem).1
  | queueRemoved => exact ⟨h.held, h.clean, h.strikes⟩
  | windowEnded cause _ => exact h.windowEnd cause
  | commitEnded => exact ⟨h.held, h.clean, h.strikes⟩
  | armed => exact ⟨h.held, h.clean, h.strikes⟩
  | staged => exact ⟨h.held, h.clean, h.strikes⟩
  | restarting => exact ⟨h.held, h.clean, h.strikes⟩
  | restarted => exact h.restartEnd _
  | unforced => exact ⟨h.held, h.clean, h.strikes⟩
  | restrained r x present written => exact h.setRestraint present written
  | released e room hold may =>
    refine h.of_hold rfl rfl fun x mem => ?_
    rw [hold]
    rcases List.mem_append.1 mem with first | later <;> simp [*]
  | issued => obtain ⟨n, frame⟩ := s.issueHead_frame; rw [frame]; exact ⟨h.held, h.clean, h.strikes⟩
  | completed slot o data =>
    obtain ⟨is, frame⟩ := State.complete_frame slot o data
    rw [frame]
    exact ⟨h.held, h.clean, h.strikes⟩
  | abandoned slot => rw [State.abandonSlot_frame]; exact ⟨h.held, h.clean, h.strikes⟩
  | freed => exact ⟨h.held, h.clean, h.strikes⟩

theorem kept_standings : Kept Standings where
  clear h := ⟨h.held, h.clean, h.strikes⟩
  act := Standings.act
  tick h := ⟨h.held, h.clean, h.strikes⟩
  taken := by
    intro x s t admits h
    cases admits with
    | refused o => exact ⟨h.held, h.clean, h.strikes⟩
    | held _ _ _ _ standing =>
      refine ⟨fun mode e mem => ?_, h.clean, h.strikes⟩
      rcases List.mem_append.1 mem with before | last
      · exact h.held mode e before
      · rw [List.mem_singleton.1 last]
        exact standing mode
    | forwarded => exact ⟨h.held, h.clean, h.strikes⟩
  reset _ := by
    obtain ⟨-, -, -, -, -, -, -, held, ⟨clean, strikes⟩, -⟩ := lawsHoldAtReset
    exact ⟨held, clean, strikes⟩

/-- Settles O57: only a window end, a restart's end and a command write the records, and each flushes what it must. -/
theorem stepKeepsStandingLaws : Obligations.StepKeepsStandingLaws := by
  rintro s t held ⟨clean, strikes⟩ step
  obtain ⟨held', clean', strikes'⟩ :=
    kept_standings.step (fun _ h => ⟨h.held, h.clean, h.strikes⟩) ⟨held, clean, strikes⟩ step
  exact ⟨held', clean', strikes'⟩

end Sys2Proof.Machine
end

section
/-! PROOFS. The outstanding table under single writes (sections 7.1 and 7.2): a slot that names no other, and two slots that
name each other; what they leave of the table's law and of the count of live transactions. -/

namespace Sys2Proof.Machine

/-! ## Counting over the slots -/

theorem countP_finRange_one {n : Nat} {f g : Fin n → Bool} {i : Fin n} (same : ∀ j, j ≠ i → f j = g j) :
    (List.finRange n).countP f + (g i).toNat = (List.finRange n).countP g + (f i).toNat := by
  have split (h : Fin n → Bool) :
      (List.finRange n).countP h = ((List.finRange n).erase i).countP h + (h i).toNat := by
    rw [(List.perm_cons_erase (List.mem_finRange i)).countP_eq, List.countP_cons]
    cases h i <;> rfl
  have rest : ((List.finRange n).erase i).countP f = ((List.finRange n).erase i).countP g :=
    List.countP_congr fun j mem => by rw [same j (((List.nodup_finRange n).mem_erase_iff).1 mem).1]
  rw [split f, split g, rest]
  omega

theorem countP_finRange_two {n : Nat} {f g : Fin n → Bool} {i p : Fin n} (apart : p ≠ i)
    (same : ∀ j, j ≠ i → j ≠ p → f j = g j) :
    (List.finRange n).countP f + ((g i).toNat + (g p).toNat) =
      (List.finRange n).countP g + ((f i).toNat + (f p).toNat) := by
  have first := countP_finRange_one (f := f) (g := Function.update f i (g i)) (i := i) fun j other => by
    rw [Function.update_of_ne other]
  have second := countP_finRange_one (f := Function.update f i (g i)) (g := g) (i := p) fun j other => by
    by_cases own : j = i
    · rw [own, Function.update_self]
    · rw [Function.update_of_ne own, same j own other]
  rw [Function.update_self] at first
  rw [Function.update_of_ne apart] at second
  omega

/-! ## Live transactions of the table -/

/-- How many live transactions of the outstanding table carry this requester and tag. -/
def State.slotLive (s : State) (r : RequesterId) (g : Tag) : Nat :=
  (List.finRange 16).countP fun i => s.leads i && (s.slot i).named r g

theorem State.liveCount_eq (s : State) (r : RequesterId) (g : Tag) : s.liveCount r g =
    s.hold.countP (fun e => carries e.txn r g) + s.issueQueue.countP (fun t => carries t r g) + s.slotLive r g := rfl

theorem Slot.record?_of_liveRecord {x : Slot} {r : SlotRecord} (h : x.liveRecord = some r) : x.record? = some r := by
  cases x with
  | free => cases h
  | issued q => exact h
  | doneWaiting q => exact h
  | abandoned q => cases h

theorem Slot.named_of_dead {x : Slot} (dead : x.liveRecord = none) (r : RequesterId) (g : Tag) : x.named r g = false := by
  rw [Slot.named, dead]

/-- Whether a slot leads is read off its own record and its partner's. -/
theorem State.leads_congr {s t : State} {j : SlotId} (own : t.slot j = s.slot j)
    (other : ∀ r p, (s.slot j).record? = some r → r.partner = some p → t.slot p = s.slot p) : t.leads j = s.leads j := by
  rw [State.leads, State.leads, own]
  cases live : (s.slot j).liveRecord with
  | none => rfl
  | some r =>
    have partner := other r
    cases role : r.role with
    | whole => simp only [role]
    | first => simp only [role]
    | second =>
      cases names : r.partner with
      | none => simp only [role, names]
      | some p => simp only [role, names, partner p (Slot.record?_of_liveRecord live) names]

theorem State.leads_of_alone {s : State} {i : SlotId} {r : SlotRecord} (live : (s.slot i).liveRecord = some r)
    (alone : r.partner = none) : s.leads i = true := by
  rw [State.leads, live]
  cases role : r.role <;> simp [role, alone]

/-! ## One slot that names no other -/

/-- A slot that is FREE, or whose record names no partner and waits for none. -/
def Slot.Lone (x : Slot) : Prop := ∀ r, x.record? = some r → r.partner = none ∧ x ≠ .doneWaiting r

theorem Slot.lone_free : Slot.Lone .free := nofun

theorem Slot.lone_issued {r : SlotRecord} (alone : r.partner = none) : Slot.Lone (.issued r) := by
  rintro _ ⟨⟩
  exact ⟨alone, nofun⟩

theorem Slot.lone_abandoned {r : SlotRecord} (alone : r.partner = none) : Slot.Lone (.abandoned r) := by
  rintro _ ⟨⟩
  exact ⟨alone, nofun⟩

/-- A lone slot leads when it is live. -/
theorem Slot.Lone.leads {s : State} {i : SlotId} (lone : (s.slot i).Lone) (r : RequesterId) (g : Tag) :
    (s.leads i && (s.slot i).named r g) = (s.slot i).named r g := by
  cases live : (s.slot i).liveRecord with
  | none => rw [Slot.named_of_dead live, Bool.and_false]
  | some q =>
    rw [State.leads_of_alone live (lone q (Slot.record?_of_liveRecord live)).1, Bool.true_and]

theorem PairLaw.unnamed_of_lone {s : State} (law : PairLaw s) {i j : SlotId} {q : SlotRecord} (lone : (s.slot i).Lone)
    (record : (s.slot j).record? = some q) : q.partner ≠ some i := fun names => by
  obtain ⟨r, own, back, -⟩ := law.named record names
  rw [(lone r own).1] at back
  cases back

section
variable {s t : State} (law : PairLaw s) {i : SlotId} {x : Slot} (old : (s.slot i).Lone) (new : x.Lone)
  (slots : ∀ j, t.slot j = if j = i then x else s.slot j)
include law old new slots

/-- The law when a lone slot is written. -/
theorem PairLaw.write_lone : PairLaw t := by
  intro j r record
  rw [slots] at record ⊢
  split at record
  next own =>
    obtain ⟨alone, waits⟩ := new r record
    rw [if_pos own]
    exact ⟨fun _ => alone, fun p names => absurd (alone.symm.trans names) nofun, fun waiting => absurd waiting waits⟩
  next other =>
    obtain ⟨whole, partner, waiting⟩ := law j r record
    have apart {p : SlotId} (names : r.partner = some p) : p ≠ i := fun same =>
      law.unnamed_of_lone old record (same ▸ names)
    rw [if_neg other]
    refine ⟨whole, fun p names => ?_, fun waits => ?_⟩
    · rw [slots, if_neg (apart names)]
      exact partner p names
    · obtain ⟨p, q, names, issued⟩ := waiting waits
      exact ⟨p, q, names, by rw [slots, if_neg (apart names)]; exact issued⟩

/-- The count when a lone slot is written. -/
theorem State.slotLive_write_lone (r : RequesterId) (g : Tag) :
    s.slotLive r g + (x.named r g).toNat = t.slotLive r g + ((s.slot i).named r g).toNat := by
  have own : t.slot i = x := by rw [slots, if_pos rfl]
  have count := countP_finRange_one (f := fun j => s.leads j && (s.slot j).named r g)
    (g := fun j => t.leads j && (t.slot j).named r g) (i := i) fun j other => by
      have same : t.slot j = s.slot j := by rw [slots, if_neg other]
      have leads : t.leads j = s.leads j := State.leads_congr same fun q p record names => by
        rw [slots]
        exact if_neg fun isI : p = i => law.unnamed_of_lone old record (isI ▸ names)
      rw [leads, same]
  have after : (t.leads i && (t.slot i).named r g) = x.named r g := by
    rw [Slot.Lone.leads (own.symm ▸ new), own]
  rw [after, old.leads] at count
  exact count

end

/-! ## Two slots that name each other -/

/-- Two records of one split transaction, a DONE_WAITING one only beside an ISSUED one. -/
def Coupled (i p : SlotId) (x y : Slot) : Prop :=
  ∃ r q, x.record? = some r ∧ y.record? = some q ∧ r.partner = some p ∧ partners i r q ∧
    (x.isDoneWaiting = true → y.isIssued = true) ∧ (y.isDoneWaiting = true → x.isIssued = true)

/-- Two slots that name each other, or two that name no other and are not live. -/
def Couple (i p : SlotId) (x y : Slot) : Prop :=
  (x.Lone ∧ y.Lone ∧ x.liveRecord = none ∧ y.liveRecord = none) ∨ Coupled i p x y

theorem partners.symm {i p : SlotId} {r q : SlotRecord} (h : partners i r q) (names : r.partner = some p) :
    partners p q r := by
  obtain ⟨-, requester, tag, kind, roles⟩ := h
  exact ⟨names, requester.symm, tag.symm, kind.symm, roles.symm.imp And.symm And.symm⟩

theorem Coupled.symm {i p : SlotId} {x y : Slot} (h : Coupled i p x y) : Coupled p i y x := by
  obtain ⟨r, q, own, other, names, agree, waitX, waitY⟩ := h
  exact ⟨q, r, other, own, agree.1, agree.symm names, waitY, waitX⟩

theorem Couple.symm {i p : SlotId} {x y : Slot} (h : Couple i p x y) : Couple p i y x :=
  h.imp (fun ⟨loneX, loneY, deadX, deadY⟩ => ⟨loneY, loneX, deadY, deadX⟩) Coupled.symm

theorem Slot.isDoneWaiting_iff (x : Slot) : x.isDoneWaiting = true ↔ ∃ r, x = .doneWaiting r := by
  cases x <;> simp [Slot.isDoneWaiting]

/-- Under the law a record and the one it names are a couple. -/
theorem PairLaw.coupled {s : State} (law : PairLaw s) {i p : SlotId} {r : SlotRecord}
    (own : (s.slot i).record? = some r) (names : r.partner = some p) : Coupled i p (s.slot i) (s.slot p) := by
  have waits {j k : SlotId} {x : SlotRecord} (record : (s.slot j).record? = some x) (partner : x.partner = some k)
      (waiting : (s.slot j).isDoneWaiting = true) : (s.slot k).isIssued = true := by
    obtain ⟨y, slot⟩ := (Slot.isDoneWaiting_iff _).1 waiting
    have same : y = x := by rw [slot] at record; exact Option.some.inj record
    obtain ⟨k', q, names', issued⟩ := (law j x record).2.2 (same ▸ slot)
    rw [partner] at names'
    cases names'
    rw [issued]
    rfl
  obtain ⟨-, partner, -⟩ := law i r own
  obtain ⟨q, other, agree⟩ := partner p names
  exact ⟨r, q, own, other, names, agree, waits own names, waits other agree.1⟩

/-- The clauses of the law at the first slot of a couple. -/
theorem Couple.clauses {t : State} {i p : SlotId} (couple : Couple i p (t.slot i) (t.slot p)) {r : SlotRecord}
    (record : (t.slot i).record? = some r) :
    (r.role = .whole → r.partner = none) ∧
    (∀ k : SlotId, r.partner = some k → ∃ q : SlotRecord, (t.slot k).record? = some q ∧ partners i r q) ∧
    (t.slot i = .doneWaiting r → ∃ k : SlotId, ∃ q : SlotRecord, r.partner = some k ∧ t.slot k = .issued q) := by
  rcases couple with ⟨lone, -⟩ | ⟨r', q, own, other, names, agree, waits, -⟩
  · obtain ⟨alone, waits⟩ := lone r record
    exact ⟨fun _ => alone, fun k k' => absurd (alone.symm.trans k') nofun, fun waiting => absurd waiting waits⟩
  · rw [own] at record
    cases record
    refine ⟨fun whole => ?_, fun k k' => ?_, fun waiting => ?_⟩
    · obtain ⟨-, -, -, -, ⟨first, -⟩ | ⟨second, -⟩⟩ := agree
      · simp [whole] at first
      · simp [whole] at second
    · rw [names] at k'
      cases k'
      exact ⟨q, other, agree⟩
    · obtain ⟨w, issued⟩ := (Slot.isIssued_iff _).1 (waits ((Slot.isDoneWaiting_iff _).2 ⟨r, waiting⟩))
      exact ⟨p, w, names, issued⟩

/-- A record beside a couple names neither of its slots. -/
theorem PairLaw.unnamed_of_couple {s : State} (law : PairLaw s) {i p j : SlotId} {q : SlotRecord}
    (couple : Couple i p (s.slot i) (s.slot p)) (record : (s.slot j).record? = some q) (other : j ≠ p) :
    q.partner ≠ some i := fun names => by
  obtain ⟨r, own, back, -⟩ := law.named record names
  rcases couple with ⟨lone, -⟩ | ⟨r', -, own', -, partner, -⟩
  · rw [(lone r own).1] at back
    cases back
  · rw [own] at own'
    cases own'
    rw [back] at partner
    exact other (Option.some.inj partner)

/-- The transaction of a couple is counted once while one of its pieces is live. -/
theorem Couple.leads {s : State} {i p : SlotId} (couple : Couple i p (s.slot i) (s.slot p)) (r : RequesterId) (g : Tag) :
    (s.leads i && (s.slot i).named r g).toNat + (s.leads p && (s.slot p).named r g).toNat =
      ((s.slot i).named r g || (s.slot p).named r g).toNat := by
  rcases couple with ⟨-, -, deadI, deadP⟩ | ⟨x, y, own, other, names, ⟨back, requester, tag, -, roles⟩, -, -⟩
  · simp [Slot.named_of_dead deadI, Slot.named_of_dead deadP]
  · have liveOwn : (s.slot i).liveRecord = some x ∨ (s.slot i).liveRecord = none := by
      cases slot : s.slot i <;> rw [slot] at own <;> cases own <;> simp [Slot.liveRecord]
    have liveOther : (s.slot p).liveRecord = some y ∨ (s.slot p).liveRecord = none := by
      cases slot : s.slot p <;> rw [slot] at other <;> cases other <;> simp [Slot.liveRecord]
    rcases liveOwn with liveI | deadI <;> rcases liveOther with liveP | deadP <;>
      rcases roles with ⟨roleX, roleY⟩ | ⟨roleX, roleY⟩ <;>
      simp [State.leads, Slot.named, *]

theorem State.slot_of_couple {s t : State} {i p : SlotId} {x y : Slot} (apart : p ≠ i)
    (slots : ∀ j, t.slot j = if j = p then y else if j = i then x else s.slot j) :
    t.slot i = x ∧ t.slot p = y ∧ ∀ j, j ≠ i → j ≠ p → t.slot j = s.slot j := by
  refine ⟨?_, ?_, fun j notI notP => ?_⟩
  · rw [slots, if_neg apart.symm, if_pos rfl]
  · rw [slots, if_pos rfl]
  · rw [slots, if_neg notP, if_neg notI]

section
variable {s t : State} (law : PairLaw s) {i p : SlotId} {x y : Slot} (apart : p ≠ i)
  (old : Couple i p (s.slot i) (s.slot p)) (new : Couple i p x y)
  (slots : ∀ j, t.slot j = if j = p then y else if j = i then x else s.slot j)
include law apart old new slots

/-- The law when a couple is written. -/
theorem PairLaw.write_couple : PairLaw t := by
  obtain ⟨slotI, slotP, others⟩ := State.slot_of_couple apart slots
  have couple : Couple i p (t.slot i) (t.slot p) := by rw [slotI, slotP]; exact new
  intro j r record
  by_cases isI : j = i
  · subst isI
    exact couple.clauses record
  · by_cases isP : j = p
    · subst isP
      exact couple.symm.clauses record
    · rw [others j isI isP] at record ⊢
      obtain ⟨whole, partner, waiting⟩ := law j r record
      have kept {k : SlotId} (names : r.partner = some k) : t.slot k = s.slot k :=
        others k (fun same => law.unnamed_of_couple old record isP (same ▸ names))
          fun same => law.unnamed_of_couple old.symm record isI (same ▸ names)
      refine ⟨whole, fun k names => ?_, fun waits => ?_⟩
      · rw [kept names]
        exact partner k names
      · obtain ⟨k, q, names, issued⟩ := waiting waits
        exact ⟨k, q, names, by rw [kept names]; exact issued⟩

/-- The count when a couple is written. -/
theorem State.slotLive_write_couple (r : RequesterId) (g : Tag) :
    s.slotLive r g + (x.named r g || y.named r g).toNat =
      t.slotLive r g + ((s.slot i).named r g || (s.slot p).named r g).toNat := by
  obtain ⟨slotI, slotP, others⟩ := State.slot_of_couple apart slots
  have couple : Couple i p (t.slot i) (t.slot p) := by rw [slotI, slotP]; exact new
  have count := countP_finRange_two (f := fun j => s.leads j && (s.slot j).named r g)
    (g := fun j => t.leads j && (t.slot j).named r g) apart fun j isI isP => by
      have leads : t.leads j = s.leads j := State.leads_congr (others j isI isP) fun q k record names =>
        others k (fun same => law.unnamed_of_couple old record isP (same ▸ names))
          fun same => law.unnamed_of_couple old.symm record isI (same ▸ names)
      rw [leads, others j isI isP]
  rw [couple.leads, old.leads, slotI, slotP] at count
  exact count

end

/-! ## Ticks, and ABANDONED slots going FREE -/

/-- A record after a tick. -/
theorem Slot.record?_ticked {x : Slot} {r : SlotRecord} (h : x.ticked.record? = some r) :
    ∃ q n, x.record? = some q ∧ r = { q with ticks := n } := by
  cases x with
  | free => cases h
  | issued q => cases h; exact ⟨q, _, rfl, rfl⟩
  | doneWaiting q => cases h; exact ⟨r, r.ticks, rfl, rfl⟩
  | abandoned q => cases h; exact ⟨r, r.ticks, rfl, rfl⟩

theorem Slot.ticked_of_record? {x : Slot} {q : SlotRecord} (h : x.record? = some q) :
    ∃ n, x.ticked.record? = some { q with ticks := n } := by
  cases x with
  | free => cases h
  | issued q => cases h; exact ⟨_, rfl⟩
  | doneWaiting q => cases h; exact ⟨q.ticks, rfl⟩
  | abandoned q => cases h; exact ⟨q.ticks, rfl⟩

/-- A tick changes no reference and no state of a slot (R127). -/
theorem PairLaw.countTick {s : State} (law : PairLaw s) : PairLaw s.countTick := by
  intro i r record
  rw [State.countTick_slot] at record ⊢
  obtain ⟨q, n, own, rfl⟩ := Slot.record?_ticked record
  obtain ⟨whole, partner, waiting⟩ := law i q own
  refine ⟨whole, fun p names => ?_, fun waits => ?_⟩
  · obtain ⟨w, other, agree⟩ := partner p names
    obtain ⟨m, ticked⟩ := Slot.ticked_of_record? other
    exact ⟨{ w with ticks := m }, by rw [State.countTick_slot]; exact ticked, agree⟩
  · have slot : s.slot i = .doneWaiting q := by
      cases h : s.slot i with
      | doneWaiting x => rw [h] at own; cases own; rfl
      | free => rw [h] at waits; cases waits
      | issued x => rw [h] at waits; cases waits
      | abandoned x => rw [h] at waits; cases waits
    obtain ⟨p, w, names, issued⟩ := waiting slot
    exact ⟨p, _, names, by rw [State.countTick_slot, issued]; rfl⟩

theorem Slot.liveRecord_ticked (x : Slot) : x.ticked.liveRecord.isNone = x.liveRecord.isNone := by cases x <;> rfl

theorem State.slotLive_countTick (s : State) (r : RequesterId) (g : Tag) : s.countTick.slotLive r g = s.slotLive r g := by
  refine List.countP_congr fun i _ => ?_
  have same : (s.countTick.leads i && (s.countTick.slot i).named r g) = (s.leads i && (s.slot i).named r g) := by
    rw [State.leads, State.leads]
    simp only [State.countTick_slot, Slot.liveRecord_ticked]
    cases s.slot i <;> rfl
  rw [same]

section
variable {s : State} {named : SlotId → Bool} (abandoned : ∀ i, named i = true → ∃ q, s.slot i = .abandoned q)
include abandoned

omit abandoned in
theorem SlotRecord.forget_partner {q : SlotRecord} {p : SlotId} (h : (q.forget named).partner = some p) :
    q.partner = some p ∧ named p = false ∧ q.forget named = q := by
  cases names : q.partner with
  | none =>
    have same : q.forget named = q := SlotRecord.forget_of_not_named fun k hk => absurd (names.symm.trans hk) nofun
    rw [same, names] at h
    cases h
  | some k =>
    by_cases gone : named k = true
    · simp [SlotRecord.forget, names, gone] at h
    · have same : q.forget named = q := by simp [SlotRecord.forget, names, gone]
      rw [same, names] at h
      cases h
      exact ⟨rfl, Bool.eq_false_iff.2 gone, same⟩

omit abandoned in
theorem Slot.record?_forget (x : Slot) : (x.forget named).record? = x.record?.map (SlotRecord.forget named) := by
  cases x <;> rfl

/-- ABANDONED slots go FREE (R126, R130, R133): no live slot is touched but for its reference to one of them. -/
theorem PairLaw.freeSlots (law : PairLaw s) : PairLaw (s.freeSlots named) := by
  intro i r record
  rw [State.freeSlots_slot] at record ⊢
  split at record
  · cases record
  next kept =>
    rw [Slot.record?_forget, Option.map_eq_some_iff] at record
    obtain ⟨q, own, rfl⟩ := record
    obtain ⟨whole, partner, waiting⟩ := law i q own
    refine ⟨fun role => ?_, fun p names => ?_, fun waits => ?_⟩
    · cases names : (q.forget named).partner with
      | none => rfl
      | some p =>
        obtain ⟨partner, -, same⟩ := SlotRecord.forget_partner names
        rw [same] at role
        exact absurd ((whole role).symm.trans partner) nofun
    · obtain ⟨names', notFreed, same⟩ := SlotRecord.forget_partner names
      obtain ⟨w, other, agree⟩ := partner p names'
      have kept' : w.forget named = w := by
        rw [SlotRecord.forget, agree.1]
        exact if_neg kept
      refine ⟨w, ?_, same.symm ▸ agree⟩
      rw [State.freeSlots_slot, if_neg (Bool.eq_false_iff.1 notFreed), Slot.record?_forget, other, Option.map_some, kept']
    · rw [if_neg kept] at waits
      have slot : s.slot i = .doneWaiting q := by
        cases h : s.slot i with
        | doneWaiting x => rw [h] at own; cases own; rfl
        | free => rw [h] at waits; cases waits
        | issued x => rw [h] at waits; cases waits
        | abandoned x => rw [h] at waits; cases waits
      obtain ⟨p, w, names, issued⟩ := waiting slot
      have notFreed : ¬ named p = true := fun gone => by
        obtain ⟨x, dead⟩ := abandoned p gone
        rw [issued] at dead
        cases dead
      have same : q.forget named = q := by
        rw [SlotRecord.forget, names]
        exact if_neg notFreed
      exact ⟨p, w.forget named, same.symm ▸ names, by rw [State.freeSlots_slot, if_neg notFreed, issued]; rfl⟩

theorem State.freeSlots_liveRecord (i : SlotId) :
    ((s.freeSlots named).slot i).liveRecord = (s.slot i).liveRecord.map (SlotRecord.forget named) := by
  rw [State.freeSlots_slot]
  split
  next gone =>
    obtain ⟨q, slot⟩ := abandoned i gone
    rw [slot]
    rfl
  next => cases s.slot i <;> rfl

theorem State.slotLive_freeSlots (r : RequesterId) (g : Tag) : (s.freeSlots named).slotLive r g = s.slotLive r g := by
  refine List.countP_congr fun i _ => ?_
  have live := State.freeSlots_liveRecord abandoned
  have same : ((s.freeSlots named).leads i && ((s.freeSlots named).slot i).named r g) =
      (s.leads i && (s.slot i).named r g) := by
    rw [State.leads, State.leads, Slot.named, Slot.named]
    simp only [live]
    cases (s.slot i).liveRecord with
    | none => rfl
    | some q =>
      cases names : q.partner with
      | none =>
        have kept : q.forget named = q := SlotRecord.forget_of_not_named fun k hk => absurd (names.symm.trans hk) nofun
        simp only [Option.map_some, kept, names]
      | some p =>
        by_cases gone : named p = true
        · obtain ⟨x, slot⟩ := abandoned p gone
          simp only [Option.map_some, SlotRecord.forget, names, gone, if_true, slot, Slot.liveRecord, Option.isNone_none]
        · simp only [Option.map_some, SlotRecord.forget, names, gone, Bool.false_eq_true, if_false, Option.isNone_map]
  rw [same]

end

end Sys2Proof.Machine
end

section
/-! PROOFS. Every transaction is answered once (section 2.3): each act keeps the law of the outstanding table, and what ceases
to be live in it is what it answers. -/

namespace Sys2Proof.Machine

/-! ## Live transactions and answers -/

/-- The response carries this requester and tag. -/
def Response.answers (x : Response) (r : RequesterId) (g : Tag) : Bool := decide (x.requester = r) && decide (x.tag = g)

/-- The law of the table holds after it, and each live transaction still is, or has its answer among those given. -/
structure Pays (s t : State) : Prop where
  law : PairLaw t
  paid : ∀ (r : RequesterId) (g : Tag), ∃ n : Nat,
    s.liveCount r g = t.liveCount r g + n ∧ t.answersGiven r g = s.answersGiven r g + n

theorem Pays.refl {s : State} (law : PairLaw s) : Pays s s := ⟨law, fun _ _ => ⟨0, rfl, rfl⟩⟩

theorem Pays.trans {s t u : State} (h : Pays s t) (k : Pays t u) : Pays s u := by
  refine ⟨k.law, fun r g => ?_⟩
  obtain ⟨n, liveN, givenN⟩ := h.paid r g
  obtain ⟨m, liveM, givenM⟩ := k.paid r g
  exact ⟨n + m, by omega, by omega⟩

theorem State.answersGiven_append {s t : State} {given : List Response}
    (out : t.out.responses = s.out.responses ++ given) (r : RequesterId) (g : Tag) :
    t.answersGiven r g = s.answersGiven r g + given.countP fun x => x.answers r g := by
  rw [State.answersGiven, out, List.countP_append]
  rfl

/-- The responses `given` answer what ceases to be live. -/
theorem Pays.of_given {s t : State} (law : PairLaw t) (given : List Response)
    (out : t.out.responses = s.out.responses ++ given)
    (live : ∀ (r : RequesterId) (g : Tag), s.liveCount r g = t.liveCount r g + given.countP fun x => x.answers r g) :
    Pays s t :=
  ⟨law, fun r g => ⟨_, live r g, State.answersGiven_append out r g⟩⟩

/-- Nothing that counts is touched. -/
theorem Pays.of_same {s t : State} (law : PairLaw s) (slots : t.slots = s.slots) (hold : t.hold = s.hold)
    (queue : t.issueQueue = s.issueQueue) (out : t.out.responses = s.out.responses) : Pays s t := by
  refine .of_given (law.of_slots slots) [] (by rw [out, List.append_nil]) fun r g => ?_
  rw [State.liveCount, State.liveCount, hold, queue]
  simp only [State.leads, State.slot, slots]
  rfl

/-- The slots stay. -/
theorem Pays.of_slots {s t : State} (law : PairLaw s) (slots : t.slots = s.slots) (given : List Response)
    (out : t.out.responses = s.out.responses ++ given)
    (queues : ∀ (r : RequesterId) (g : Tag),
      s.hold.countP (fun e => carries e.txn r g) + s.issueQueue.countP (fun x => carries x r g) =
        t.hold.countP (fun e => carries e.txn r g) + t.issueQueue.countP (fun x => carries x r g) +
          given.countP fun x => x.answers r g) : Pays s t := by
  refine .of_given (law.of_slots slots) given out fun r g => ?_
  have same : t.slotLive r g = s.slotLive r g := by
    simp only [State.slotLive, State.leads, State.slot, slots]
  rw [State.liveCount_eq, State.liveCount_eq, queues, same]
  omega

/-- The queues stay. -/
theorem Pays.of_queues {s t : State} (law : PairLaw t) (hold : t.hold = s.hold) (queue : t.issueQueue = s.issueQueue)
    (given : List Response) (out : t.out.responses = s.out.responses ++ given)
    (live : ∀ (r : RequesterId) (g : Tag),
      s.slotLive r g = t.slotLive r g + given.countP fun x => x.answers r g) : Pays s t := by
  refine .of_given law given out fun r g => ?_
  rw [State.liveCount_eq, State.liveCount_eq, live, hold, queue]
  omega

/-! ## The answers to held and queued entries -/

theorem countP_plainResponse (ts : List Transaction) (o : ResponseOutcome) (r : RequesterId) (g : Tag) :
    (ts.map fun x => plainResponse x.requester x.tag o).countP (fun x => x.answers r g) =
      ts.countP fun x => carries x r g := by
  rw [List.countP_map]
  rfl

theorem countP_answersTo (es : List HeldEntry) (o : ResponseOutcome) (r : RequesterId) (g : Tag) :
    (answersTo es o).countP (fun x => x.answers r g) = es.countP fun e => carries e.txn r g := by
  rw [answersTo, List.countP_map]
  rfl

theorem countP_filter_add_not {α : Type} (l : List α) (p q : α → Bool) :
    l.countP q = (l.filter fun e => !p e).countP q + (l.filter p).countP q := by
  rw [List.countP_eq_countP_filter_add l q p, Nat.add_comm]

theorem Pays.flushed {s : State} (law : PairLaw s) (named : HeldEntry → Bool) (o : ResponseOutcome) :
    Pays s ({ s with hold := s.hold.filter fun e => !named e }.withRefusals ((s.hold.filter named).map HeldEntry.txn) o) := by
  refine .of_slots law rfl _ rfl fun r g => ?_
  rw [countP_plainResponse, List.countP_map, countP_filter_add_not s.hold named]
  change _ = _ + s.issueQueue.countP _ + _
  exact Nat.add_right_comm _ _ _

theorem Pays.queueRemoved {s : State} (law : PairLaw s) :
    Pays s ({ s with issueQueue := [] }.withRefusals s.issueQueue .retry) := by
  refine .of_slots law rfl _ rfl fun r g => ?_
  rw [countP_plainResponse]
  rfl

/-- A held entry that moves to the issue queue stays live. -/
theorem Pays.released {s : State} (law : PairLaw s) {before after : List HeldEntry} {e : HeldEntry}
    (hold : s.hold = before ++ e :: after) : Pays s { s.withJoined e.txn with hold := before ++ after } := by
  refine .of_slots law rfl [] (List.append_nil _).symm fun r g => ?_
  change _ = (before ++ after).countP _ + (s.issueQueue ++ [e.txn]).countP _ + 0
  rw [hold, List.countP_append, List.countP_append, List.countP_append, List.countP_cons, List.countP_singleton]
  omega

/-- The entries that expire at a window end are none of an escalated requester (R50). -/
theorem State.exists_joins_apart (s : State) (applied : Bool) : ∃ gone : HeldEntry → Bool,
    (∀ e, gone e = true → s.escalates e.txn.requester = false) ∧ Joins applied gone s (s.joinRecords applied) :=
  (s.joins_joinRecords applied).elim (fun joins => ⟨_, fun _ h => absurd h Bool.false_ne_true, joins⟩)
    fun recorded => ⟨_, State.apart_expiresNow, recorded.2⟩

theorem countP_three {α : Type} {l : List α} {a b : α → Bool} (apart : ∀ e, b e = true → a e = false) (q : α → Bool) :
    l.countP q =
      (l.filter fun e => !a e && !b e).countP q + (l.countP (fun e => a e && q e) + (l.filter b).countP q) := by
  have second : (l.filter fun e => !a e).filter b = l.filter b := by
    rw [List.filter_filter]
    refine List.filter_congr fun e _ => ?_
    cases h : b e
    · rfl
    · rw [apart e h]
      rfl
  have first : (l.filter a).countP q = l.countP fun e => a e && q e := by
    rw [List.countP_filter]
    simp only [Bool.and_comm]
  have rest : ((l.filter fun e => !a e).filter fun e => !b e) = l.filter fun e => !a e && !b e := by
    rw [List.filter_filter]
    simp only [Bool.and_comm]
  rw [countP_filter_add_not l a, countP_filter_add_not (l.filter fun e => !a e) b, second, rest, first]
  omega

/-- A window end answers the entries an apply flushes, those of escalated requesters and those that expire. -/
theorem Pays.windowEnd {s : State} (law : PairLaw s) (cause : WindowEndCause) : Pays s (s.windowEnd cause) := by
  obtain ⟨gone, apart, joins⟩ := (s.windowAged cause).exists_joins_apart (s.applies cause)
  have final := (s.windowEnd_eq_joinRecords cause).trans (State.startDrain_eq _)
  have frame := s.windowEnd_frame cause
  have slots : (s.windowEnd cause).slots = s.slots := by rw [frame]
  have queue : (s.windowEnd cause).issueQueue = s.issueQueue := by rw [frame]
  clear frame
  obtain ⟨-, -, hold, -, ⟨answers, answered, out⟩, -⟩ := joins
  have opened : (s.windowAged cause).out = (s.windowOpened cause).out := rfl
  have held : (s.windowEnd cause).hold = _ := (congrArg State.hold final).trans hold
  have given : (s.windowEnd cause).out.responses = s.out.responses ++
      (answersTo (s.hold.filter (s.flushedAt cause)) .denied ++ answers.flatten) := by
    rw [final]
    refine (congrArg Outputs.responses out).trans ?_
    rw [opened, State.windowOpened_out, List.append_assoc]
  refine .of_slots law slots _ given fun r g => ?_
  have aged : (s.windowAged cause).hold.countP (fun e => carries e.txn r g) =
      (s.hold.filter fun e => !s.flushedAt cause e).countP fun e => carries e.txn r g := by
    rw [State.windowAged_hold]
    exact countP_aged _ _ fun _ => rfl
  have flattened : answers.flatten.countP (fun x => x.answers r g) =
      (s.windowAged cause).escalatedNowEntries.countP (fun e => carries e.txn r g) +
        ((s.windowAged cause).hold.filter gone).countP fun e => carries e.txn r g := by
    rw [answered.flatten.countP_eq]
    simp [countP_answersTo]
  have left := countP_three (l := (s.windowAged cause).hold) apart fun e => carries e.txn r g
  rw [held, queue, List.countP_append, countP_answersTo, flattened, State.countP_escalatedNowEntries,
    countP_filter_add_not s.hold (s.flushedAt cause), ← aged, left]
  omega

/-! ## The slots -/

theorem Slot.named_issued (q : SlotRecord) (r : RequesterId) (g : Tag) :
    (Slot.issued q).named r g = (decide (q.requester = r) && decide (q.tag = g)) := rfl

theorem Slot.named_doneWaiting (q : SlotRecord) (r : RequesterId) (g : Tag) :
    (Slot.doneWaiting q).named r g = (decide (q.requester = r) && decide (q.tag = g)) := rfl

theorem Slot.named_abandoned (q : SlotRecord) (r : RequesterId) (g : Tag) : (Slot.abandoned q).named r g = false := rfl

theorem Slot.named_free (r : RequesterId) (g : Tag) : Slot.free.named r g = false := rfl

/-- A slot that names no other is written, and its transaction is answered unless it stays live. -/
theorem Pays.write_lone {s t : State} (law : PairLaw s) {i : SlotId} {x : Slot} (old : (s.slot i).Lone) (new : x.Lone)
    (slots : ∀ j, t.slot j = if j = i then x else s.slot j) (hold : t.hold = s.hold) (queue : t.issueQueue = s.issueQueue)
    (given : List Response) (out : t.out.responses = s.out.responses ++ given)
    (live : ∀ (r : RequesterId) (g : Tag),
      ((s.slot i).named r g).toNat = (x.named r g).toNat + given.countP fun y => y.answers r g) : Pays s t := by
  refine .of_queues (law.write_lone old new slots) hold queue given out fun r g => ?_
  have count := State.slotLive_write_lone law old new slots r g
  have paid := live r g
  omega

/-- Two slots that name each other are written, and their transaction is answered unless it stays live. -/
theorem Pays.write_couple {s t : State} (law : PairLaw s) {i p : SlotId} {x y : Slot} (apart : p ≠ i)
    (old : Couple i p (s.slot i) (s.slot p)) (new : Couple i p x y)
    (slots : ∀ j, t.slot j = if j = p then y else if j = i then x else s.slot j) (hold : t.hold = s.hold)
    (queue : t.issueQueue = s.issueQueue) (given : List Response) (out : t.out.responses = s.out.responses ++ given)
    (live : ∀ (r : RequesterId) (g : Tag), ((s.slot i).named r g || (s.slot p).named r g).toNat =
      (x.named r g || y.named r g).toNat + given.countP fun z => z.answers r g) : Pays s t := by
  refine .of_queues (law.write_couple apart old new slots) hold queue given out fun r g => ?_
  have count := State.slotLive_write_couple law apart old new slots r g
  have paid := live r g
  omega

/-- Two slots after both are written. -/
theorem State.setSlot_setSlot_slot (s : State) (i p : SlotId) (x y : Slot) (j : SlotId) :
    ((s.setSlot i x).setSlot p y).slot j = if j = p then y else if j = i then x else s.slot j := by
  rw [State.setSlot_slot, State.setSlot_slot]

/-- The one response of a list, counted. -/
theorem countP_answer {x : Response} {requester : RequesterId} {tag : Tag} (named : x.requester = requester)
    (tagged : x.tag = tag) (r : RequesterId) (g : Tag) :
    [x].countP (fun y => y.answers r g) = (decide (requester = r) && decide (tag = g)).toNat := by
  rw [List.countP_singleton, Response.answers, named, tagged]
  cases decide (requester = r) && decide (tag = g) <;> rfl

/-- DONE or FAULT, the answer is one response with the record's requester and tag. -/
theorem State.answer_cases (s : State) (c : Prop) [Decidable c] (r : SlotRecord) (data : List Beat) :
    ∃ x : Response, x.requester = r.requester ∧ x.tag = r.tag ∧
      (if c then s.done r data else s.fault r) = s.respond x := by
  split
  · exact ⟨_, rfl, rfl, rfl⟩
  · exact ⟨_, rfl, rfl, rfl⟩

theorem partners.completed {i : SlotId} {q w : SlotRecord} (h : partners i q w) (o : CompletionOutcome)
    (data : List Beat) : partners i (q.completed o data) w := by
  obtain ⟨requester, tag, kind, role, -⟩ := q.completed_same o data
  rw [partners, requester, tag, kind, role]
  exact h

section
variable {s : State} (law : PairLaw s) {i : SlotId} {q : SlotRecord} (own : s.slot i = .issued q)
include law own

/-- The record that an ISSUED slot names. -/
theorem PairLaw.partner_of_issued {p : SlotId} (partner : q.partner = some p) :
    p ≠ i ∧ Couple i p (s.slot i) (s.slot p) ∧ ∃ w, (s.slot p).record? = some w ∧ partners i q w := by
  have record : (s.slot i).record? = some q := by rw [own]; rfl
  exact ⟨law.partner_ne record partner, .inr (law.coupled record partner), (law i q record).2.1 p partner⟩

/-- A completion answers its transaction, unless its partner is still ISSUED (R121, R124). -/
theorem Pays.completed (o : CompletionOutcome) (data : List Beat) : Pays s (s.complete i o data) := by
  obtain ⟨sameRequester, sameTag, -, -, samePartner⟩ := q.completed_same o data
  by_cases role : q.role = .whole
  · have alone := (law i q (by rw [own]; rfl)).1 role
    have ends := State.complete_whole law own role o data
    rw [State.recordError_eq] at ends
    obtain ⟨x, named, tagged, answer⟩ := State.answer_cases (s.withIncidents _) ((q.completed o data).outcome = .ok)
      (q.completed o data) (q.completed o data).beats
    dsimp only at ends
    rw [ends, answer]
    refine .write_lone law (own ▸ Slot.lone_issued alone) Slot.lone_free (fun j => State.setSlot_slot _ i j .free) rfl rfl
      [x] rfl fun r g => ?_
    rw [own, Slot.named_issued, Slot.named_free, countP_answer (named.trans sameRequester) (tagged.trans sameTag)]
    exact (Nat.zero_add _).symm
  · cases partner : q.partner with
    | none =>
      rw [State.complete_alone law own role partner, State.recordError_eq]
      refine .write_lone law (own ▸ Slot.lone_issued partner) Slot.lone_free (fun j => State.setSlot_slot _ i j .free) rfl rfl
        [plainResponse q.requester q.tag .fault] rfl fun r g => ?_
      rw [own, Slot.named_issued, Slot.named_free, countP_answer rfl rfl]
      exact (Nat.zero_add _).symm
    | some p =>
      obtain ⟨apart, couple, w, record, agree⟩ := law.partner_of_issued own partner
      have ⟨_, requester, tag, _, _⟩ := agree
      cases other : s.slot p with
      | free => rw [other] at record; cases record
      | issued w' =>
        rw [other] at record
        cases record
        rw [State.complete_waiting own role partner other, State.recordError_eq]
        have new : Couple i p (.doneWaiting (q.completed o data)) (.issued w) :=
          .inr ⟨_, w, rfl, rfl, samePartner.trans partner, partners.completed agree o data, fun _ => rfl, nofun⟩
        refine .write_couple law apart couple new (fun j => ?_) rfl rfl [] (List.append_nil _).symm fun r g => ?_
        · refine (State.setSlot_slot _ i j _).trans ?_
          by_cases isP : j = p
          · rw [if_pos isP, if_neg (isP ▸ apart), isP]
            exact other
          · rw [if_neg isP]
            rfl
        · rw [own, other, Slot.named_issued, Slot.named_issued, Slot.named_doneWaiting, sameRequester, sameTag]
          rfl
      | doneWaiting w' =>
        rw [other] at record
        cases record
        have ends := State.complete_pair law own role partner other o data
        rw [State.recordError_eq] at ends
        obtain ⟨x, named, tagged, answer⟩ := State.answer_cases (s.withIncidents _)
          ((q.completed o data).outcome = .ok ∧ w.outcome = .ok) (q.completed o data) (pairData (q.completed o data) w)
        dsimp only at ends
        rw [ends, answer]
        refine .write_couple law apart couple (.inl ⟨Slot.lone_free, Slot.lone_free, rfl, rfl⟩)
          (State.setSlot_setSlot_slot _ i p .free .free) rfl rfl [x] rfl fun r g => ?_
        rw [own, other, Slot.named_issued, Slot.named_doneWaiting, Slot.named_free, requester, tag, Bool.or_self,
          countP_answer (named.trans sameRequester) (tagged.trans sameTag)]
        exact (Nat.zero_add _).symm
      | abandoned w' =>
        rw [other] at record
        cases record
        rw [State.complete_beside_abandoned law own role partner other, State.recordError_eq]
        refine .write_couple law apart.symm couple.symm
          (.inl ⟨Slot.lone_abandoned (r := { w with partner := none }) rfl, Slot.lone_free, rfl, rfl⟩)
          (State.setSlot_setSlot_slot _ p i _ .free) rfl rfl [plainResponse q.requester q.tag .fault] rfl fun r g => ?_
        rw [own, other, Slot.named_issued, Slot.named_abandoned, Slot.named_abandoned, Slot.named_free, Bool.false_or,
          countP_answer rfl rfl]
        exact (Nat.zero_add _).symm

/-- An abandoned slot's transaction is answered, unless its partner is still ISSUED (R128, R136). -/
theorem Pays.abandoned : Pays s (s.abandonSlot i q) := by
  cases partner : q.partner with
  | none =>
    rw [State.abandonSlot_of_alone partner]
    refine .write_lone law (own ▸ Slot.lone_issued partner) (Slot.lone_abandoned (r := q.timedOut) partner)
      (fun j => State.setSlot_slot s i j _) rfl rfl [plainResponse q.requester q.tag .fault] rfl fun r g => ?_
    rw [own, Slot.named_issued, Slot.named_abandoned, countP_answer rfl rfl]
    exact (Nat.zero_add _).symm
  | some p =>
    have role : q.role ≠ .whole := fun whole =>
      absurd (((law i q (by rw [own]; rfl)).1 whole).symm.trans partner) nofun
    obtain ⟨apart, couple, w, record, agree⟩ := law.partner_of_issued own partner
    have ⟨_, requester, tag, _, _⟩ := agree
    have beside {y : Slot} (other : s.slot p = y) (j : SlotId) : (s.setSlot i (.abandoned q.timedOut)).slot j =
        if j = p then y else if j = i then .abandoned q.timedOut else s.slot j := by
      rw [State.setSlot_slot]
      by_cases isP : j = p
      · rw [if_pos isP, if_neg (isP ▸ apart), isP, other]
      · rw [if_neg isP]
    cases other : s.slot p with
    | free => rw [other] at record; cases record
    | issued w' =>
      rw [other] at record
      cases record
      rw [State.abandonSlot_of_issued role partner apart other]
      have new : Couple i p (.abandoned q.timedOut) (.issued w) :=
        .inr ⟨q.timedOut, w, rfl, rfl, partner, agree, nofun, nofun⟩
      refine .write_couple law apart couple new (beside other) rfl rfl [] (List.append_nil _).symm fun r g => ?_
      rw [own, other, Slot.named_issued, Slot.named_issued, Slot.named_abandoned, requester, tag, Bool.or_self,
        Bool.false_or]
      rfl
    | abandoned w' =>
      rw [other] at record
      cases record
      rw [State.abandonSlot_of_abandoned role partner apart other]
      have new : Couple i p (.abandoned q.timedOut) (.abandoned w) :=
        .inr ⟨q.timedOut, w, rfl, rfl, partner, agree, nofun, nofun⟩
      refine .write_couple law apart couple new (beside other) rfl rfl [plainResponse q.requester q.tag .fault] rfl
        fun r g => ?_
      rw [own, other, Slot.named_issued, Slot.named_abandoned, Slot.named_abandoned, Bool.or_false, countP_answer rfl rfl]
      exact (Nat.zero_add _).symm
    | doneWaiting w' =>
      rw [other] at record
      cases record
      rw [State.abandonSlot_of_doneWaiting role partner apart other]
      have new : Couple i p (.abandoned { q.timedOut with partner := none }) .free :=
        .inl ⟨Slot.lone_abandoned rfl, Slot.lone_free, rfl, rfl⟩
      refine .write_couple law apart couple new (fun j => ?_) rfl rfl [plainResponse q.requester q.tag .fault] rfl
        fun r g => ?_
      · rw [State.freeSlot_slot]
        split
        · rfl
        next notP =>
          refine (congrArg (Slot.forget _) (beside other j)).trans ?_
          rw [if_neg notP]
          split
          next =>
            have names : q.timedOut.partner = some p := partner
            rw [Slot.forget, q.timedOut.forget_single p, if_pos names]
          next notI =>
            exact Slot.forget_of_not_named fun x recordX k names => decide_eq_false fun isP =>
              law.unnamed_of_couple couple.symm recordX notI (isP ▸ names)
      · rw [own, other, Slot.named_issued, Slot.named_doneWaiting, Slot.named_abandoned, Slot.named_free, requester, tag,
          Bool.or_self, countP_answer rfl rfl]
        exact (Nat.zero_add _).symm

end

end Sys2Proof.Machine
end

section
/-! PROOFS. Every act pays; then the law of the outstanding table with the uniqueness of live tags, and the conservation of
transactions over every command. -/

namespace Sys2Proof.Machine

/-! ## Issue -/

/-- The record of an issued piece carries its transaction's requester and tag. -/
theorem Slot.named_issuedRecord (x : Transaction) (p : Piece) (partner : Option SlotId) (r : RequesterId) (g : Tag) :
    (Slot.issued (issuedRecord x p partner)).named r g = carries x r g := rfl

theorem countP_head (x : Transaction) (rest : List Transaction) (r : RequesterId) (g : Tag) :
    (x :: rest).countP (fun t => carries t r g) = rest.countP (fun t => carries t r g) + (carries x r g).toNat := by
  rw [List.countP_cons]
  cases carries x r g <;> rfl

/-- A transaction that leaves the issue queue for the outstanding table stays live, as one (R107 to R109). -/
theorem Pays.issued {s : State} (law : PairLaw s) : Pays s s.issueHead := by
  cases head : s.issueQueue with
  | nil =>
    rw [State.issueHead, head]
    exact .refl law
  | cons x rest =>
    by_cases split : crosses x = true
    · rw [State.issueHead_of_split head split]
      split
      next i j later list =>
        obtain ⟨freeI, freeJ, apart⟩ := State.free_of_freeList list
        let t : State := ({ s with issueQueue := rest }.send x (firstPiece x) i (some j)).send x (secondPiece x) j (some i)
        have old : Couple i j (s.slot i) (s.slot j) :=
          .inl ⟨freeI ▸ Slot.lone_free, freeJ ▸ Slot.lone_free, by rw [freeI]; rfl, by rw [freeJ]; rfl⟩
        have new : Couple i j (.issued (issuedRecord x (firstPiece x) (some j)))
            (.issued (issuedRecord x (secondPiece x) (some i))) :=
          .inr ⟨_, _, rfl, rfl, rfl, ⟨rfl, rfl, rfl, rfl, .inl ⟨rfl, rfl⟩⟩, nofun, nofun⟩
        have slots : ∀ k, t.slot k = if k = j then _ else if k = i then _ else s.slot k :=
          State.setSlot_setSlot_slot { s with issueQueue := rest } i j _ _
        refine .of_given (law.write_couple apart.symm old new slots) [] (List.append_nil _).symm fun r g => ?_
        have count := State.slotLive_write_couple law apart.symm old new slots r g
        rw [Slot.named_issuedRecord, Slot.named_issuedRecord, Bool.or_self, freeI, freeJ, Slot.named_free] at count
        rw [State.liveCount_eq, State.liveCount_eq, head, countP_head]
        change _ = s.hold.countP _ + rest.countP _ + t.slotLive r g + 0
        simp only [Bool.or_self, Bool.toNat_false] at count
        omega
      next => exact .refl law
    · rw [State.issueHead_of_whole head (Bool.eq_false_iff.2 split)]
      split
      next i later list =>
        have free : s.slot i = .free := (s.mem_freeList i).1 (by simp [list])
        let t : State := { s with issueQueue := rest }.send x (wholePiece x) i none
        have old : (s.slot i).Lone := free ▸ Slot.lone_free
        have new : (Slot.issued (issuedRecord x (wholePiece x) none)).Lone := Slot.lone_issued rfl
        have slots : ∀ k, t.slot k = if k = i then _ else s.slot k :=
          fun k => State.setSlot_slot { s with issueQueue := rest } i k _
        refine .of_given (law.write_lone old new slots) [] (List.append_nil _).symm fun r g => ?_
        have count := State.slotLive_write_lone law old new slots r g
        rw [Slot.named_issuedRecord, free, Slot.named_free] at count
        rw [State.liveCount_eq, State.liveCount_eq, head, countP_head]
        change _ = s.hold.countP _ + rest.countP _ + t.slotLive r g + 0
        simp only [Bool.toNat_false] at count
        omega
      next => exact .refl law

theorem Pays.freed {s : State} (law : PairLaw s) {named : SlotId → Bool}
    (abandoned : ∀ i, named i = true → ∃ q, s.slot i = .abandoned q) : Pays s (s.freeSlots named) := by
  refine .of_queues (PairLaw.freeSlots abandoned law) rfl rfl [] (List.append_nil _).symm fun r g => ?_
  rw [State.slotLive_freeSlots abandoned]
  rfl

/-! ## Every act -/

theorem Act.pays {s t : State} (act : Act s t) (law : PairLaw s) : Pays s t := by
  cases act with
  | silent => exact .of_same law rfl rfl rfl rfl
  | noted => exact .of_same law rfl rfl rfl rfl
  | logRead => exact .of_same law rfl rfl rfl rfl
  | flushed named o => exact .flushed law named o
  | queueRemoved => exact .queueRemoved law
  | windowEnded cause _ => exact .windowEnd law cause
  | commitEnded => exact .of_same law rfl rfl rfl rfl
  | armed => exact .of_same law rfl rfl rfl rfl
  | staged => exact .of_same law rfl rfl rfl rfl
  | restarting => exact .of_same law rfl rfl rfl rfl
  | restarted => exact .of_same law rfl rfl rfl rfl
  | unforced => exact .of_same law rfl rfl rfl rfl
  | restrained => exact .of_same law rfl rfl rfl rfl
  | released e room hold may => exact .released law hold
  | issued => exact .issued law
  | completed slot o data => exact .completed law slot o data
  | abandoned slot => exact .abandoned law slot
  | freed named abandoned => exact .freed law abandoned

theorem Acts.pays {s t : State} (acts : Acts s t) (law : PairLaw s) : Pays s t := by
  induction acts with
  | refl => exact .refl law
  | tail _ last ih => exact ih.trans (last.pays ih.law)

theorem Pays.begins {s t : State} (begun : Begins s t) (law : PairLaw s) : Pays s.clearOut t := by
  obtain ⟨u, before, after⟩ := begun
  have start : Pays s.clearOut u := before.pays law
  have ended := start.trans (u.acts_takeWindowEnd.pays start.law)
  exact ended.trans (after.pays ended.law)

/-! ## Takings and ticks -/

/-- A tag that is not live is carried by no live transaction (R26). -/
theorem State.liveCount_of_not_live {s : State} {r : RequesterId} {g : Tag} (h : s.live r g = false) :
    s.liveCount r g = 0 := by
  rw [State.live, Bool.or_eq_false_iff, Bool.or_eq_false_iff] at h
  obtain ⟨⟨hold, queue⟩, slots⟩ := h
  have noSlot : s.slotLive r g = 0 := List.countP_eq_zero.2 fun i mem live => by
    rw [Bool.and_eq_true] at live
    exact Bool.eq_false_iff.1 slots (List.any_eq_true.2 ⟨i, mem, live.2⟩)
  have noHeld : s.hold.countP (fun e => carries e.txn r g) = 0 := List.countP_eq_zero.2 fun e mem live =>
    Bool.eq_false_iff.1 hold (List.any_eq_true.2 ⟨e, mem, live⟩)
  have noQueued : s.issueQueue.countP (fun t => carries t r g) = 0 := List.countP_eq_zero.2 fun t mem live =>
    Bool.eq_false_iff.1 queue (List.any_eq_true.2 ⟨t, mem, live⟩)
  rw [State.liveCount_eq, noSlot, noHeld, noQueued]

theorem carries_iff (x : Transaction) (r : RequesterId) (g : Tag) : carries x r g = true ↔ x.requester = r ∧ x.tag = g := by
  rw [carries, Bool.and_eq_true, decide_eq_true_iff, decide_eq_true_iff]

/-- A transaction that is taken is answered, or live from then on; it becomes live only with a tag that is not. -/
theorem Admits.takes {x : Transaction} {s t : State} (admits : Admits x s t) (r : RequesterId) (g : Tag) :
    s.liveCount r g + s.answersGiven r g + (carries x r g).toNat = t.liveCount r g + t.answersGiven r g ∧
      (t.liveCount r g = s.liveCount r g ∨ s.liveCount x.requester x.tag = 0 ∧
        t.liveCount r g = s.liveCount r g + (carries x r g).toNat) := by
  cases admits with
  | refused o =>
    have given := State.answersGiven_append (s := s) (t := s.withRefusal x o)
      (given := [plainResponse x.requester x.tag o]) rfl r g
    rw [countP_answer rfl rfl] at given
    refine ⟨?_, .inl rfl⟩
    change _ = s.liveCount r g + _
    rw [given, ← Nat.add_assoc]
    rfl
  | held wellFormed fresh calm room standing =>
    have live : (s.holdTransaction x).liveCount r g = s.liveCount r g + (carries x r g).toNat := by
      rw [State.liveCount_eq, State.liveCount_eq]
      change (s.hold ++ [_]).countP _ + s.issueQueue.countP _ + s.slotLive r g = _
      rw [List.countP_append, List.countP_singleton]
      change _ + (if carries x r g then 1 else 0) + _ + _ = _
      cases carries x r g <;> simp only [Bool.toNat, cond_true, cond_false, if_true, Bool.false_eq_true, if_false] <;> omega
    refine ⟨?_, .inr ⟨State.liveCount_of_not_live fresh, live⟩⟩
    rw [live]
    change _ = _ + s.answersGiven r g
    omega
  | forwarded wellFormed fresh room funded =>
    have live : (s.withJoined x).liveCount r g = s.liveCount r g + (carries x r g).toNat := by
      rw [State.liveCount_eq, State.liveCount_eq]
      change s.hold.countP _ + (s.issueQueue ++ [x]).countP _ + s.slotLive r g = _
      rw [List.countP_append, countP_head, List.countP_nil]
      omega
    refine ⟨?_, .inr ⟨State.liveCount_of_not_live fresh, live⟩⟩
    rw [live]
    change _ = _ + s.answersGiven r g
    omega

theorem Admits.pairLaw {x : Transaction} {s t : State} (admits : Admits x s t) (law : PairLaw s) : PairLaw t := by
  cases admits <;> exact law

theorem State.liveCount_countTick (s : State) (r : RequesterId) (g : Tag) :
    s.countTick.liveCount r g = s.liveCount r g := by
  rw [State.liveCount_eq, State.liveCount_eq, State.slotLive_countTick]
  rfl

/-! ## The obligations -/

/-- The law of the table, and every requester's tags live at most once. -/
structure Tabled (s : State) : Prop where
  pairs : PairLaw s
  live : LiveLaw s

theorem kept_tabled : Kept Tabled where
  clear h := ⟨h.pairs, h.live⟩
  act act h := by
    have pays := act.pays h.pairs
    refine ⟨pays.law, fun r g => ?_⟩
    obtain ⟨n, live, -⟩ := pays.paid r g
    have before := h.live r g
    omega
  tick h := ⟨h.pairs.countTick, fun r g => by rw [State.liveCount_countTick]; exact h.live r g⟩
  taken {x s t} admits h := by
    refine ⟨admits.pairLaw h.pairs, fun r g => ?_⟩
    have before := h.live r g
    rcases (admits.takes r g).2 with same | ⟨fresh, one⟩
    · omega
    · cases own : carries x r g with
      | false => rw [own, Bool.toNat_false] at one; omega
      | true =>
        obtain ⟨rfl, rfl⟩ := (carries_iff x r g).1 own
        rw [own, Bool.toNat_true] at one
        omega
  reset _ := by
    obtain ⟨-, -, -, -, -, -, -, -, -, -, pairs, live⟩ := lawsHoldAtReset
    exact ⟨pairs, live⟩

/-- Settles O59: every act pays, so that no tag gains a live transaction but by a taking, which finds it free. -/
theorem stepKeepsPairsAndLiveTags : Obligations.StepKeepsPairsAndLiveTags := by
  intro s t pairs live step
  obtain ⟨pairs', live'⟩ := kept_tabled.step (fun _ h => ⟨h.pairs, h.live⟩) ⟨pairs, live⟩ step
  exact ⟨pairs', live'⟩

/-- What is live when the ports are emptied is live or answered afterwards. -/
theorem Pays.balance {s t : State} (pays : Pays s.clearOut t) (r : RequesterId) (g : Tag) :
    s.liveCount r g = t.liveCount r g + t.answersGiven r g := by
  obtain ⟨n, live, given⟩ := pays.paid r g
  have start : s.clearOut.liveCount r g = s.liveCount r g := rfl
  have silent : s.clearOut.answersGiven r g = 0 := rfl
  omega

theorem takes_of_not_taken {c : Instr} (h : ∀ x, c ≠ .transactionTaken x) (t : State) (r : RequesterId) (g : Tag) :
    takes c t r g = 0 := by
  cases c
  case transactionTaken x => exact absurd rfl (h x)
  all_goals rfl

/-- Settles O60: every act pays, a tick touches nothing that counts, and a taking answers its transaction or makes it live. -/
theorem eachTransactionIsAnsweredOnce : Obligations.EachTransactionIsAnsweredOnce := by
  intro s t c r g law notReset step
  cases runs_of_exec step with
  | reset => exact absurd rfl notReset
  | @tick _ u begun =>
    have paid := (Pays.begins begun law).balance r g
    rw [State.liveCount_countTick]
    exact paid
  | @waits _ u x begun =>
    have paid := ((Pays.begins begun law).trans (.of_same (Pays.begins begun law).law rfl rfl rfl rfl)).balance r g
    have none : takes (.transactionTaken x) { u with uPort := .waiting } r g = 0 := by simp [takes]
    rw [none]
    exact paid
  | @takes _ u v _ x begun admitted acts taken =>
    have begins := Pays.begins begun law
    have paid := begins.balance r g
    have lawV : PairLaw v := admitted.pairLaw begins.law
    obtain ⟨moved, -⟩ := admitted.takes r g
    obtain ⟨n, live, given⟩ := (acts.pays lawV).paid r g
    have one : takes (.transactionTaken x) t r g = (carries x r g).toNat := by
      rw [takes, taken]
      cases carries x r g <;> rfl
    have sameLive : ({ u with uPort := .none } : State).liveCount r g = u.liveCount r g := rfl
    have sameGiven : ({ u with uPort := .none } : State).answersGiven r g = u.answersGiven r g := rfl
    omega
  | due row acts =>
    have paid := (acts.pays (s := s.clearOut) law).balance r g
    have none : takes c t r g = 0 := by
      rcases row with rfl | rfl | rfl | rfl <;> rfl
    rw [none]
    exact paid
  | event row begun =>
    rw [takes_of_not_taken row]
    exact (Pays.begins begun law).balance r g

end Sys2Proof.Machine
end
